-- ==== Sys2Proof/Word.lean ====
section
/-! DEFINITION. The two word types of the hardware: bytes (`u8`) and 16-bit words (`u16`), spec 00 R7. -/

namespace Sys2Proof

/-- A `u8`: register contents, memory bytes, immediates `n` and `e` (R7). -/
abbrev Byte := BitVec 8

/-- A `u16`: PC, SP, register pairs, addresses, immediates `nn` (R7). -/
abbrev Word := BitVec 16

end Sys2Proof
end

