-- ==== Sys2Proof/Machine/Bits.lean ====
section
/-! DEFINITION. Splitting, joining and extending words and bytes (spec 00 R7). -/

namespace Sys2Proof.Machine

/-- `v[15:8]`. -/
def hiByte (v : Word) : Byte := v.extractLsb' 8 8

/-- `v[7:0]`. -/
def loByte (v : Word) : Byte := v.extractLsb' 0 8

/-- `hi ++ lo`. -/
def join (hi lo : Byte) : Word := hi ++ lo

/-- `zext_16(v)` (R7). -/
def zext16 (v : Byte) : Word := v.setWidth 16

/-- `sext_16(v)`: bit 7 copied into bits 15..8 (R7). -/
def sext16 (v : Byte) : Word := v.signExtend 16

/-- A bit as a number, 0 or 1. -/
def bitNat (b : Bool) : Nat := if b then 1 else 0

/-- Do `f` `n` times. -/
def repeatN {α : Type} (f : α → α) : Nat → α → α
  | 0, x => x
  | n + 1, x => repeatN f n (f x)

end Sys2Proof.Machine
end

