-- ==== Sys2Proof/Config.lean ====
section
/-! DEFINITION. What the model leaves free: the bytes that the spec calls `draw(u8)` (00 R10), and what a peek shows where a
read would draw one. -/

namespace Sys2Proof

/-- `draw(u8)` of spec 00 R10: the `k`-th byte that some read draws, under no law. It is taken by reads of
out-of-scope I/O registers (20 R69), of the boot-ROM-disable latch (20 R70) and of absent cartridge RAM (20 R61).
FREE VALUE: it has no body, so no proof can see a value of it (log 4). -/
opaque Config.freeByte : Nat → Byte

/-- What a memory peek shows at an address whose read is `draw(u8)`, by address and count of draws so far; the spec is
silent there (60 R340). FREE VALUE: it has no body, and nothing relates it to the bytes that reads draw (log 19). -/
opaque Config.peekByte : Nat → Nat → Byte

end Sys2Proof
end

