-- ==== Sys2Proof/Syntax.lean ====
section
/-! DEFINITION. The instructions: one constructor per row of spec/opcode_table.json, and the small operand types. -/

namespace Sys2Proof

/-- The seven 8-bit registers that the 3-bit field `r` names (spec 30 R104; value 6 names the memory byte at HL). -/
inductive R8 where
  | b | c | d | e | h | l | a
  deriving DecidableEq, Repr

/-- The pair field `rr` (spec 30 R105): value 3 is SP. -/
inductive R16 where
  | bc | de | hl | sp
  deriving DecidableEq, Repr

/-- The pair field `rr2` of PUSH and POP (spec 30 R105): value 3 is AF. -/
inductive R16Stack where
  | bc | de | hl | af
  deriving DecidableEq, Repr

/-- The condition field `cc` (spec 30 R106). -/
inductive Cond where
  | nz | z | nc | c
  deriving DecidableEq, Repr

/-- The eight 8-bit operations, in the order of the opcode map (spec 30 R110, 43 R185 to R192). -/
inductive AluOp where
  | add | adc | sub | sbc | and | xor | or | cp
  deriving DecidableEq, Repr

/-- The eight operations of the rotate/shift group, in the order of the CB table (spec 30 R111, 46 R250). -/
inductive ShiftOp where
  | rlc | rrc | rl | rr | sla | sra | swap | srl
  deriving DecidableEq, Repr

/-- One constructor per row of spec/opcode_table.json, the rows with an
immediate first (the runtime numbers constructors that hold data in one byte), then the table's order. `n` is an immediate or displacement
byte (formats OP_N, OP_E), `nn` a 16-bit immediate (format OP_NN), spec 30 R100, R108. -/
inductive Instr where
  -- the primary table, instructions with an immediate (spec 30 R110)
  /-- `LD BC,nn` (R170) -/
  | ldBcImm16 (nn : Word)
  /-- `LD B,n` (R141) -/
  | ldBImm8 (n : Byte)
  /-- `LD (nn),SP` (R171) -/
  | ldAtImm16Sp (nn : Word)
  /-- `LD C,n` (R141) -/
  | ldCImm8 (n : Byte)
  /-- `STOP` (R305) -/
  | stop (n : Byte)
  /-- `LD DE,nn` (R170) -/
  | ldDeImm16 (nn : Word)
  /-- `LD D,n` (R141) -/
  | ldDImm8 (n : Byte)
  /-- `JR e` (R284) -/
  | jrRel (e : Byte)
  /-- `LD E,n` (R141) -/
  | ldEImm8 (n : Byte)
  /-- `JR NZ,e` (R285) -/
  | jrNZRel (e : Byte)
  /-- `LD HL,nn` (R170) -/
  | ldHlImm16 (nn : Word)
  /-- `LD H,n` (R141) -/
  | ldHImm8 (n : Byte)
  /-- `JR Z,e` (R285) -/
  | jrZRel (e : Byte)
  /-- `LD L,n` (R141) -/
  | ldLImm8 (n : Byte)
  /-- `JR NC,e` (R285) -/
  | jrNCRel (e : Byte)
  /-- `LD SP,nn` (R170) -/
  | ldSpImm16 (nn : Word)
  /-- `LD (HL),n` (R144) -/
  | ldAtHlImm8 (n : Byte)
  /-- `JR C,e` (R285) -/
  | jrCRel (e : Byte)
  /-- `LD A,n` (R141) -/
  | ldAImm8 (n : Byte)
  /-- `JP NZ,nn` (R282) -/
  | jpNZImm16 (nn : Word)
  /-- `JP nn` (R281) -/
  | jpImm16 (nn : Word)
  /-- `CALL NZ,nn` (R287) -/
  | callNZImm16 (nn : Word)
  /-- `ADD A,n` (R195) -/
  | addAImm8 (n : Byte)
  /-- `JP Z,nn` (R282) -/
  | jpZImm16 (nn : Word)
  /-- `CALL Z,nn` (R287) -/
  | callZImm16 (nn : Word)
  /-- `CALL nn` (R286) -/
  | callImm16 (nn : Word)
  /-- `ADC A,n` (R198) -/
  | adcAImm8 (n : Byte)
  /-- `JP NC,nn` (R282) -/
  | jpNCImm16 (nn : Word)
  /-- `CALL NC,nn` (R287) -/
  | callNCImm16 (nn : Word)
  /-- `SUB n` (R201) -/
  | subImm8 (n : Byte)
  /-- `JP C,nn` (R282) -/
  | jpCImm16 (nn : Word)
  /-- `CALL C,nn` (R287) -/
  | callCImm16 (nn : Word)
  /-- `SBC A,n` (R204) -/
  | sbcAImm8 (n : Byte)
  /-- `LDH (n),A` (R154) -/
  | ldhAtImm8A (n : Byte)
  /-- `AND n` (R207) -/
  | andImm8 (n : Byte)
  /-- `ADD SP,e` (R228) -/
  | addSpRel (e : Byte)
  /-- `LD (nn),A` (R150) -/
  | ldAtImm16A (nn : Word)
  /-- `XOR n` (R210) -/
  | xorImm8 (n : Byte)
  /-- `LDH A,(n)` (R153) -/
  | ldhAAtImm8 (n : Byte)
  /-- `OR n` (R213) -/
  | orImm8 (n : Byte)
  /-- `LD HL,SP+e` (R229) -/
  | ldHlSpRel (e : Byte)
  /-- `LD A,(nn)` (R149) -/
  | ldAAtImm16 (nn : Word)
  /-- `CP n` (R216) -/
  | cpImm8 (n : Byte)
  -- the primary table, the other cells
  /-- `NOP` (R300) -/
  | nop
  /-- `LD (BC),A` (R147) -/
  | ldAtBcA
  /-- `INC BC` (R226) -/
  | incBc
  /-- `INC B` (R217) -/
  | incB
  /-- `DEC B` (R219) -/
  | decB
  /-- `RLCA` (R235) -/
  | rlca
  /-- `ADD HL,BC` (R225) -/
  | addHlBc
  /-- `LD A,(BC)` (R145) -/
  | ldAAtBc
  /-- `DEC BC` (R227) -/
  | decBc
  /-- `INC C` (R217) -/
  | incC
  /-- `DEC C` (R219) -/
  | decC
  /-- `RRCA` (R237) -/
  | rrca
  /-- `LD (DE),A` (R148) -/
  | ldAtDeA
  /-- `INC DE` (R226) -/
  | incDe
  /-- `INC D` (R217) -/
  | incD
  /-- `DEC D` (R219) -/
  | decD
  /-- `RLA` (R236) -/
  | rla
  /-- `ADD HL,DE` (R225) -/
  | addHlDe
  /-- `LD A,(DE)` (R146) -/
  | ldAAtDe
  /-- `DEC DE` (R227) -/
  | decDe
  /-- `INC E` (R217) -/
  | incE
  /-- `DEC E` (R219) -/
  | decE
  /-- `RRA` (R238) -/
  | rra
  /-- `LD (HL+),A` (R157) -/
  | ldAtHlIncA
  /-- `INC HL` (R226) -/
  | incHl
  /-- `INC H` (R217) -/
  | incH
  /-- `DEC H` (R219) -/
  | decH
  /-- `DAA` (R239) -/
  | daa
  /-- `ADD HL,HL` (R225) -/
  | addHlHl
  /-- `LD A,(HL+)` (R158) -/
  | ldAAtHlInc
  /-- `DEC HL` (R227) -/
  | decHl
  /-- `INC L` (R217) -/
  | incL
  /-- `DEC L` (R219) -/
  | decL
  /-- `CPL` (R240) -/
  | cpl
  /-- `LD (HL-),A` (R159) -/
  | ldAtHlDecA
  /-- `INC SP` (R226) -/
  | incSp
  /-- `INC (HL)` (R218) -/
  | incAtHl
  /-- `DEC (HL)` (R220) -/
  | decAtHl
  /-- `SCF` (R241) -/
  | scf
  /-- `ADD HL,SP` (R225) -/
  | addHlSp
  /-- `LD A,(HL-)` (R160) -/
  | ldAAtHlDec
  /-- `DEC SP` (R227) -/
  | decSp
  /-- `INC A` (R217) -/
  | incA
  /-- `DEC A` (R219) -/
  | decA
  /-- `CCF` (R242) -/
  | ccf
  /-- `LD B,B` (R140) -/
  | ldBB
  /-- `LD B,C` (R140) -/
  | ldBC
  /-- `LD B,D` (R140) -/
  | ldBD
  /-- `LD B,E` (R140) -/
  | ldBE
  /-- `LD B,H` (R140) -/
  | ldBH
  /-- `LD B,L` (R140) -/
  | ldBL
  /-- `LD B,(HL)` (R142) -/
  | ldBAtHl
  /-- `LD B,A` (R140) -/
  | ldBA
  /-- `LD C,B` (R140) -/
  | ldCB
  /-- `LD C,C` (R140) -/
  | ldCC
  /-- `LD C,D` (R140) -/
  | ldCD
  /-- `LD C,E` (R140) -/
  | ldCE
  /-- `LD C,H` (R140) -/
  | ldCH
  /-- `LD C,L` (R140) -/
  | ldCL
  /-- `LD C,(HL)` (R142) -/
  | ldCAtHl
  /-- `LD C,A` (R140) -/
  | ldCA
  /-- `LD D,B` (R140) -/
  | ldDB
  /-- `LD D,C` (R140) -/
  | ldDC
  /-- `LD D,D` (R140) -/
  | ldDD
  /-- `LD D,E` (R140) -/
  | ldDE
  /-- `LD D,H` (R140) -/
  | ldDH
  /-- `LD D,L` (R140) -/
  | ldDL
  /-- `LD D,(HL)` (R142) -/
  | ldDAtHl
  /-- `LD D,A` (R140) -/
  | ldDA
  /-- `LD E,B` (R140) -/
  | ldEB
  /-- `LD E,C` (R140) -/
  | ldEC
  /-- `LD E,D` (R140) -/
  | ldED
  /-- `LD E,E` (R140) -/
  | ldEE
  /-- `LD E,H` (R140) -/
  | ldEH
  /-- `LD E,L` (R140) -/
  | ldEL
  /-- `LD E,(HL)` (R142) -/
  | ldEAtHl
  /-- `LD E,A` (R140) -/
  | ldEA
  /-- `LD H,B` (R140) -/
  | ldHB
  /-- `LD H,C` (R140) -/
  | ldHC
  /-- `LD H,D` (R140) -/
  | ldHD
  /-- `LD H,E` (R140) -/
  | ldHE
  /-- `LD H,H` (R140) -/
  | ldHH
  /-- `LD H,L` (R140) -/
  | ldHL
  /-- `LD H,(HL)` (R142) -/
  | ldHAtHl
  /-- `LD H,A` (R140) -/
  | ldHA
  /-- `LD L,B` (R140) -/
  | ldLB
  /-- `LD L,C` (R140) -/
  | ldLC
  /-- `LD L,D` (R140) -/
  | ldLD
  /-- `LD L,E` (R140) -/
  | ldLE
  /-- `LD L,H` (R140) -/
  | ldLH
  /-- `LD L,L` (R140) -/
  | ldLL
  /-- `LD L,(HL)` (R142) -/
  | ldLAtHl
  /-- `LD L,A` (R140) -/
  | ldLA
  /-- `LD (HL),B` (R143) -/
  | ldAtHlB
  /-- `LD (HL),C` (R143) -/
  | ldAtHlC
  /-- `LD (HL),D` (R143) -/
  | ldAtHlD
  /-- `LD (HL),E` (R143) -/
  | ldAtHlE
  /-- `LD (HL),H` (R143) -/
  | ldAtHlH
  /-- `LD (HL),L` (R143) -/
  | ldAtHlL
  /-- `HALT` (R304) -/
  | halt
  /-- `LD (HL),A` (R143) -/
  | ldAtHlA
  /-- `LD A,B` (R140) -/
  | ldAB
  /-- `LD A,C` (R140) -/
  | ldAC
  /-- `LD A,D` (R140) -/
  | ldAD
  /-- `LD A,E` (R140) -/
  | ldAE
  /-- `LD A,H` (R140) -/
  | ldAH
  /-- `LD A,L` (R140) -/
  | ldAL
  /-- `LD A,(HL)` (R142) -/
  | ldAAtHl
  /-- `LD A,A` (R140) -/
  | ldAA
  /-- `ADD A,B` (R193) -/
  | addAB
  /-- `ADD A,C` (R193) -/
  | addAC
  /-- `ADD A,D` (R193) -/
  | addAD
  /-- `ADD A,E` (R193) -/
  | addAE
  /-- `ADD A,H` (R193) -/
  | addAH
  /-- `ADD A,L` (R193) -/
  | addAL
  /-- `ADD A,(HL)` (R194) -/
  | addAAtHl
  /-- `ADD A,A` (R193) -/
  | addAA
  /-- `ADC A,B` (R196) -/
  | adcAB
  /-- `ADC A,C` (R196) -/
  | adcAC
  /-- `ADC A,D` (R196) -/
  | adcAD
  /-- `ADC A,E` (R196) -/
  | adcAE
  /-- `ADC A,H` (R196) -/
  | adcAH
  /-- `ADC A,L` (R196) -/
  | adcAL
  /-- `ADC A,(HL)` (R197) -/
  | adcAAtHl
  /-- `ADC A,A` (R196) -/
  | adcAA
  /-- `SUB B` (R199) -/
  | subB
  /-- `SUB C` (R199) -/
  | subC
  /-- `SUB D` (R199) -/
  | subD
  /-- `SUB E` (R199) -/
  | subE
  /-- `SUB H` (R199) -/
  | subH
  /-- `SUB L` (R199) -/
  | subL
  /-- `SUB (HL)` (R200) -/
  | subAtHl
  /-- `SUB A` (R199) -/
  | subA
  /-- `SBC A,B` (R202) -/
  | sbcAB
  /-- `SBC A,C` (R202) -/
  | sbcAC
  /-- `SBC A,D` (R202) -/
  | sbcAD
  /-- `SBC A,E` (R202) -/
  | sbcAE
  /-- `SBC A,H` (R202) -/
  | sbcAH
  /-- `SBC A,L` (R202) -/
  | sbcAL
  /-- `SBC A,(HL)` (R203) -/
  | sbcAAtHl
  /-- `SBC A,A` (R202) -/
  | sbcAA
  /-- `AND B` (R205) -/
  | andB
  /-- `AND C` (R205) -/
  | andC
  /-- `AND D` (R205) -/
  | andD
  /-- `AND E` (R205) -/
  | andE
  /-- `AND H` (R205) -/
  | andH
  /-- `AND L` (R205) -/
  | andL
  /-- `AND (HL)` (R206) -/
  | andAtHl
  /-- `AND A` (R205) -/
  | andA
  /-- `XOR B` (R208) -/
  | xorB
  /-- `XOR C` (R208) -/
  | xorC
  /-- `XOR D` (R208) -/
  | xorD
  /-- `XOR E` (R208) -/
  | xorE
  /-- `XOR H` (R208) -/
  | xorH
  /-- `XOR L` (R208) -/
  | xorL
  /-- `XOR (HL)` (R209) -/
  | xorAtHl
  /-- `XOR A` (R208) -/
  | xorA
  /-- `OR B` (R211) -/
  | orB
  /-- `OR C` (R211) -/
  | orC
  /-- `OR D` (R211) -/
  | orD
  /-- `OR E` (R211) -/
  | orE
  /-- `OR H` (R211) -/
  | orH
  /-- `OR L` (R211) -/
  | orL
  /-- `OR (HL)` (R212) -/
  | orAtHl
  /-- `OR A` (R211) -/
  | orA
  /-- `CP B` (R214) -/
  | cpB
  /-- `CP C` (R214) -/
  | cpC
  /-- `CP D` (R214) -/
  | cpD
  /-- `CP E` (R214) -/
  | cpE
  /-- `CP H` (R214) -/
  | cpH
  /-- `CP L` (R214) -/
  | cpL
  /-- `CP (HL)` (R215) -/
  | cpAtHl
  /-- `CP A` (R214) -/
  | cpA
  /-- `RET NZ` (R289) -/
  | retNZ
  /-- `POP BC` (R176) -/
  | popBc
  /-- `PUSH BC` (R175) -/
  | pushBc
  /-- `RST 0x00` (R291) -/
  | rst00
  /-- `RET Z` (R289) -/
  | retZ
  /-- `RET` (R288) -/
  | ret
  /-- `PREFIX CB` (R109) -/
  | prefixCb
  /-- `RST 0x08` (R291) -/
  | rst08
  /-- `RET NC` (R289) -/
  | retNC
  /-- `POP DE` (R176) -/
  | popDe
  /-- `ILLEGAL_D3` (R306) -/
  | illegalD3
  /-- `PUSH DE` (R175) -/
  | pushDe
  /-- `RST 0x10` (R291) -/
  | rst10
  /-- `RET C` (R289) -/
  | retC
  /-- `RETI` (R290) -/
  | reti
  /-- `ILLEGAL_DB` (R306) -/
  | illegalDB
  /-- `ILLEGAL_DD` (R306) -/
  | illegalDD
  /-- `RST 0x18` (R291) -/
  | rst18
  /-- `POP HL` (R176) -/
  | popHl
  /-- `LD (C),A` (R156) -/
  | ldAtCA
  /-- `ILLEGAL_E3` (R306) -/
  | illegalE3
  /-- `ILLEGAL_E4` (R306) -/
  | illegalE4
  /-- `PUSH HL` (R175) -/
  | pushHl
  /-- `RST 0x20` (R291) -/
  | rst20
  /-- `JP HL` (R283) -/
  | jpHl
  /-- `ILLEGAL_EB` (R306) -/
  | illegalEB
  /-- `ILLEGAL_EC` (R306) -/
  | illegalEC
  /-- `ILLEGAL_ED` (R306) -/
  | illegalED
  /-- `RST 0x28` (R291) -/
  | rst28
  /-- `POP AF` (R176) -/
  | popAf
  /-- `LD A,(C)` (R155) -/
  | ldAAtC
  /-- `DI` (R301) -/
  | di
  /-- `ILLEGAL_F4` (R306) -/
  | illegalF4
  /-- `PUSH AF` (R175) -/
  | pushAf
  /-- `RST 0x30` (R291) -/
  | rst30
  /-- `LD SP,HL` (R172) -/
  | ldSpHl
  /-- `EI` (R302) -/
  | ei
  /-- `ILLEGAL_FC` (R306) -/
  | illegalFC
  /-- `ILLEGAL_FD` (R306) -/
  | illegalFD
  /-- `RST 0x38` (R291) -/
  | rst38
  -- the CB-extension table (spec 30 R111)
  /-- `RLC B` (R251) -/
  | rlcB
  /-- `RLC C` (R251) -/
  | rlcC
  /-- `RLC D` (R251) -/
  | rlcD
  /-- `RLC E` (R251) -/
  | rlcE
  /-- `RLC H` (R251) -/
  | rlcH
  /-- `RLC L` (R251) -/
  | rlcL
  /-- `RLC (HL)` (R252) -/
  | rlcAtHl
  /-- `RLC A` (R251) -/
  | rlcA
  /-- `RRC B` (R253) -/
  | rrcB
  /-- `RRC C` (R253) -/
  | rrcC
  /-- `RRC D` (R253) -/
  | rrcD
  /-- `RRC E` (R253) -/
  | rrcE
  /-- `RRC H` (R253) -/
  | rrcH
  /-- `RRC L` (R253) -/
  | rrcL
  /-- `RRC (HL)` (R254) -/
  | rrcAtHl
  /-- `RRC A` (R253) -/
  | rrcA
  /-- `RL B` (R255) -/
  | rlB
  /-- `RL C` (R255) -/
  | rlC
  /-- `RL D` (R255) -/
  | rlD
  /-- `RL E` (R255) -/
  | rlE
  /-- `RL H` (R255) -/
  | rlH
  /-- `RL L` (R255) -/
  | rlL
  /-- `RL (HL)` (R256) -/
  | rlAtHl
  /-- `RL A` (R255) -/
  | rlA
  /-- `RR B` (R257) -/
  | rrB
  /-- `RR C` (R257) -/
  | rrC
  /-- `RR D` (R257) -/
  | rrD
  /-- `RR E` (R257) -/
  | rrE
  /-- `RR H` (R257) -/
  | rrH
  /-- `RR L` (R257) -/
  | rrL
  /-- `RR (HL)` (R258) -/
  | rrAtHl
  /-- `RR A` (R257) -/
  | rrA
  /-- `SLA B` (R259) -/
  | slaB
  /-- `SLA C` (R259) -/
  | slaC
  /-- `SLA D` (R259) -/
  | slaD
  /-- `SLA E` (R259) -/
  | slaE
  /-- `SLA H` (R259) -/
  | slaH
  /-- `SLA L` (R259) -/
  | slaL
  /-- `SLA (HL)` (R260) -/
  | slaAtHl
  /-- `SLA A` (R259) -/
  | slaA
  /-- `SRA B` (R261) -/
  | sraB
  /-- `SRA C` (R261) -/
  | sraC
  /-- `SRA D` (R261) -/
  | sraD
  /-- `SRA E` (R261) -/
  | sraE
  /-- `SRA H` (R261) -/
  | sraH
  /-- `SRA L` (R261) -/
  | sraL
  /-- `SRA (HL)` (R262) -/
  | sraAtHl
  /-- `SRA A` (R261) -/
  | sraA
  /-- `SWAP B` (R263) -/
  | swapB
  /-- `SWAP C` (R263) -/
  | swapC
  /-- `SWAP D` (R263) -/
  | swapD
  /-- `SWAP E` (R263) -/
  | swapE
  /-- `SWAP H` (R263) -/
  | swapH
  /-- `SWAP L` (R263) -/
  | swapL
  /-- `SWAP (HL)` (R264) -/
  | swapAtHl
  /-- `SWAP A` (R263) -/
  | swapA
  /-- `SRL B` (R265) -/
  | srlB
  /-- `SRL C` (R265) -/
  | srlC
  /-- `SRL D` (R265) -/
  | srlD
  /-- `SRL E` (R265) -/
  | srlE
  /-- `SRL H` (R265) -/
  | srlH
  /-- `SRL L` (R265) -/
  | srlL
  /-- `SRL (HL)` (R266) -/
  | srlAtHl
  /-- `SRL A` (R265) -/
  | srlA
  /-- `BIT 0,B` (R267) -/
  | bit0B
  /-- `BIT 0,C` (R267) -/
  | bit0C
  /-- `BIT 0,D` (R267) -/
  | bit0D
  /-- `BIT 0,E` (R267) -/
  | bit0E
  /-- `BIT 0,H` (R267) -/
  | bit0H
  /-- `BIT 0,L` (R267) -/
  | bit0L
  /-- `BIT 0,(HL)` (R268) -/
  | bit0AtHl
  /-- `BIT 0,A` (R267) -/
  | bit0A
  /-- `BIT 1,B` (R267) -/
  | bit1B
  /-- `BIT 1,C` (R267) -/
  | bit1C
  /-- `BIT 1,D` (R267) -/
  | bit1D
  /-- `BIT 1,E` (R267) -/
  | bit1E
  /-- `BIT 1,H` (R267) -/
  | bit1H
  /-- `BIT 1,L` (R267) -/
  | bit1L
  /-- `BIT 1,(HL)` (R268) -/
  | bit1AtHl
  /-- `BIT 1,A` (R267) -/
  | bit1A
  /-- `BIT 2,B` (R267) -/
  | bit2B
  /-- `BIT 2,C` (R267) -/
  | bit2C
  /-- `BIT 2,D` (R267) -/
  | bit2D
  /-- `BIT 2,E` (R267) -/
  | bit2E
  /-- `BIT 2,H` (R267) -/
  | bit2H
  /-- `BIT 2,L` (R267) -/
  | bit2L
  /-- `BIT 2,(HL)` (R268) -/
  | bit2AtHl
  /-- `BIT 2,A` (R267) -/
  | bit2A
  /-- `BIT 3,B` (R267) -/
  | bit3B
  /-- `BIT 3,C` (R267) -/
  | bit3C
  /-- `BIT 3,D` (R267) -/
  | bit3D
  /-- `BIT 3,E` (R267) -/
  | bit3E
  /-- `BIT 3,H` (R267) -/
  | bit3H
  /-- `BIT 3,L` (R267) -/
  | bit3L
  /-- `BIT 3,(HL)` (R268) -/
  | bit3AtHl
  /-- `BIT 3,A` (R267) -/
  | bit3A
  /-- `BIT 4,B` (R267) -/
  | bit4B
  /-- `BIT 4,C` (R267) -/
  | bit4C
  /-- `BIT 4,D` (R267) -/
  | bit4D
  /-- `BIT 4,E` (R267) -/
  | bit4E
  /-- `BIT 4,H` (R267) -/
  | bit4H
  /-- `BIT 4,L` (R267) -/
  | bit4L
  /-- `BIT 4,(HL)` (R268) -/
  | bit4AtHl
  /-- `BIT 4,A` (R267) -/
  | bit4A
  /-- `BIT 5,B` (R267) -/
  | bit5B
  /-- `BIT 5,C` (R267) -/
  | bit5C
  /-- `BIT 5,D` (R267) -/
  | bit5D
  /-- `BIT 5,E` (R267) -/
  | bit5E
  /-- `BIT 5,H` (R267) -/
  | bit5H
  /-- `BIT 5,L` (R267) -/
  | bit5L
  /-- `BIT 5,(HL)` (R268) -/
  | bit5AtHl
  /-- `BIT 5,A` (R267) -/
  | bit5A
  /-- `BIT 6,B` (R267) -/
  | bit6B
  /-- `BIT 6,C` (R267) -/
  | bit6C
  /-- `BIT 6,D` (R267) -/
  | bit6D
  /-- `BIT 6,E` (R267) -/
  | bit6E
  /-- `BIT 6,H` (R267) -/
  | bit6H
  /-- `BIT 6,L` (R267) -/
  | bit6L
  /-- `BIT 6,(HL)` (R268) -/
  | bit6AtHl
  /-- `BIT 6,A` (R267) -/
  | bit6A
  /-- `BIT 7,B` (R267) -/
  | bit7B
  /-- `BIT 7,C` (R267) -/
  | bit7C
  /-- `BIT 7,D` (R267) -/
  | bit7D
  /-- `BIT 7,E` (R267) -/
  | bit7E
  /-- `BIT 7,H` (R267) -/
  | bit7H
  /-- `BIT 7,L` (R267) -/
  | bit7L
  /-- `BIT 7,(HL)` (R268) -/
  | bit7AtHl
  /-- `BIT 7,A` (R267) -/
  | bit7A
  /-- `RES 0,B` (R269) -/
  | res0B
  /-- `RES 0,C` (R269) -/
  | res0C
  /-- `RES 0,D` (R269) -/
  | res0D
  /-- `RES 0,E` (R269) -/
  | res0E
  /-- `RES 0,H` (R269) -/
  | res0H
  /-- `RES 0,L` (R269) -/
  | res0L
  /-- `RES 0,(HL)` (R270) -/
  | res0AtHl
  /-- `RES 0,A` (R269) -/
  | res0A
  /-- `RES 1,B` (R269) -/
  | res1B
  /-- `RES 1,C` (R269) -/
  | res1C
  /-- `RES 1,D` (R269) -/
  | res1D
  /-- `RES 1,E` (R269) -/
  | res1E
  /-- `RES 1,H` (R269) -/
  | res1H
  /-- `RES 1,L` (R269) -/
  | res1L
  /-- `RES 1,(HL)` (R270) -/
  | res1AtHl
  /-- `RES 1,A` (R269) -/
  | res1A
  /-- `RES 2,B` (R269) -/
  | res2B
  /-- `RES 2,C` (R269) -/
  | res2C
  /-- `RES 2,D` (R269) -/
  | res2D
  /-- `RES 2,E` (R269) -/
  | res2E
  /-- `RES 2,H` (R269) -/
  | res2H
  /-- `RES 2,L` (R269) -/
  | res2L
  /-- `RES 2,(HL)` (R270) -/
  | res2AtHl
  /-- `RES 2,A` (R269) -/
  | res2A
  /-- `RES 3,B` (R269) -/
  | res3B
  /-- `RES 3,C` (R269) -/
  | res3C
  /-- `RES 3,D` (R269) -/
  | res3D
  /-- `RES 3,E` (R269) -/
  | res3E
  /-- `RES 3,H` (R269) -/
  | res3H
  /-- `RES 3,L` (R269) -/
  | res3L
  /-- `RES 3,(HL)` (R270) -/
  | res3AtHl
  /-- `RES 3,A` (R269) -/
  | res3A
  /-- `RES 4,B` (R269) -/
  | res4B
  /-- `RES 4,C` (R269) -/
  | res4C
  /-- `RES 4,D` (R269) -/
  | res4D
  /-- `RES 4,E` (R269) -/
  | res4E
  /-- `RES 4,H` (R269) -/
  | res4H
  /-- `RES 4,L` (R269) -/
  | res4L
  /-- `RES 4,(HL)` (R270) -/
  | res4AtHl
  /-- `RES 4,A` (R269) -/
  | res4A
  /-- `RES 5,B` (R269) -/
  | res5B
  /-- `RES 5,C` (R269) -/
  | res5C
  /-- `RES 5,D` (R269) -/
  | res5D
  /-- `RES 5,E` (R269) -/
  | res5E
  /-- `RES 5,H` (R269) -/
  | res5H
  /-- `RES 5,L` (R269) -/
  | res5L
  /-- `RES 5,(HL)` (R270) -/
  | res5AtHl
  /-- `RES 5,A` (R269) -/
  | res5A
  /-- `RES 6,B` (R269) -/
  | res6B
  /-- `RES 6,C` (R269) -/
  | res6C
  /-- `RES 6,D` (R269) -/
  | res6D
  /-- `RES 6,E` (R269) -/
  | res6E
  /-- `RES 6,H` (R269) -/
  | res6H
  /-- `RES 6,L` (R269) -/
  | res6L
  /-- `RES 6,(HL)` (R270) -/
  | res6AtHl
  /-- `RES 6,A` (R269) -/
  | res6A
  /-- `RES 7,B` (R269) -/
  | res7B
  /-- `RES 7,C` (R269) -/
  | res7C
  /-- `RES 7,D` (R269) -/
  | res7D
  /-- `RES 7,E` (R269) -/
  | res7E
  /-- `RES 7,H` (R269) -/
  | res7H
  /-- `RES 7,L` (R269) -/
  | res7L
  /-- `RES 7,(HL)` (R270) -/
  | res7AtHl
  /-- `RES 7,A` (R269) -/
  | res7A
  /-- `SET 0,B` (R271) -/
  | set0B
  /-- `SET 0,C` (R271) -/
  | set0C
  /-- `SET 0,D` (R271) -/
  | set0D
  /-- `SET 0,E` (R271) -/
  | set0E
  /-- `SET 0,H` (R271) -/
  | set0H
  /-- `SET 0,L` (R271) -/
  | set0L
  /-- `SET 0,(HL)` (R272) -/
  | set0AtHl
  /-- `SET 0,A` (R271) -/
  | set0A
  /-- `SET 1,B` (R271) -/
  | set1B
  /-- `SET 1,C` (R271) -/
  | set1C
  /-- `SET 1,D` (R271) -/
  | set1D
  /-- `SET 1,E` (R271) -/
  | set1E
  /-- `SET 1,H` (R271) -/
  | set1H
  /-- `SET 1,L` (R271) -/
  | set1L
  /-- `SET 1,(HL)` (R272) -/
  | set1AtHl
  /-- `SET 1,A` (R271) -/
  | set1A
  /-- `SET 2,B` (R271) -/
  | set2B
  /-- `SET 2,C` (R271) -/
  | set2C
  /-- `SET 2,D` (R271) -/
  | set2D
  /-- `SET 2,E` (R271) -/
  | set2E
  /-- `SET 2,H` (R271) -/
  | set2H
  /-- `SET 2,L` (R271) -/
  | set2L
  /-- `SET 2,(HL)` (R272) -/
  | set2AtHl
  /-- `SET 2,A` (R271) -/
  | set2A
  /-- `SET 3,B` (R271) -/
  | set3B
  /-- `SET 3,C` (R271) -/
  | set3C
  /-- `SET 3,D` (R271) -/
  | set3D
  /-- `SET 3,E` (R271) -/
  | set3E
  /-- `SET 3,H` (R271) -/
  | set3H
  /-- `SET 3,L` (R271) -/
  | set3L
  /-- `SET 3,(HL)` (R272) -/
  | set3AtHl
  /-- `SET 3,A` (R271) -/
  | set3A
  /-- `SET 4,B` (R271) -/
  | set4B
  /-- `SET 4,C` (R271) -/
  | set4C
  /-- `SET 4,D` (R271) -/
  | set4D
  /-- `SET 4,E` (R271) -/
  | set4E
  /-- `SET 4,H` (R271) -/
  | set4H
  /-- `SET 4,L` (R271) -/
  | set4L
  /-- `SET 4,(HL)` (R272) -/
  | set4AtHl
  /-- `SET 4,A` (R271) -/
  | set4A
  /-- `SET 5,B` (R271) -/
  | set5B
  /-- `SET 5,C` (R271) -/
  | set5C
  /-- `SET 5,D` (R271) -/
  | set5D
  /-- `SET 5,E` (R271) -/
  | set5E
  /-- `SET 5,H` (R271) -/
  | set5H
  /-- `SET 5,L` (R271) -/
  | set5L
  /-- `SET 5,(HL)` (R272) -/
  | set5AtHl
  /-- `SET 5,A` (R271) -/
  | set5A
  /-- `SET 6,B` (R271) -/
  | set6B
  /-- `SET 6,C` (R271) -/
  | set6C
  /-- `SET 6,D` (R271) -/
  | set6D
  /-- `SET 6,E` (R271) -/
  | set6E
  /-- `SET 6,H` (R271) -/
  | set6H
  /-- `SET 6,L` (R271) -/
  | set6L
  /-- `SET 6,(HL)` (R272) -/
  | set6AtHl
  /-- `SET 6,A` (R271) -/
  | set6A
  /-- `SET 7,B` (R271) -/
  | set7B
  /-- `SET 7,C` (R271) -/
  | set7C
  /-- `SET 7,D` (R271) -/
  | set7D
  /-- `SET 7,E` (R271) -/
  | set7E
  /-- `SET 7,H` (R271) -/
  | set7H
  /-- `SET 7,L` (R271) -/
  | set7L
  /-- `SET 7,(HL)` (R272) -/
  | set7AtHl
  /-- `SET 7,A` (R271) -/
  | set7A
  deriving DecidableEq, Repr

end Sys2Proof
end

