-- ==== Sys2Proof/WellFormed.lean ====
section
/-! DEFINITION. Which terms of `Instr` are whole instructions. Operand ranges are in the types, so one check is left. -/

namespace Sys2Proof

/-- The row `PREFIX CB` is "not an instruction of its own" (spec 30 R109): after 0xCB a second byte is always fetched, and
the pair is a CB entry. Every other term is a whole instruction: its operands are bytes and words of the right width
(R100), and STOP's second byte may be anything (R113). -/
def Instr.wellFormed : Instr → Bool
  | .prefixCb => false
  | _ => true

end Sys2Proof
end

