-- ==== Sys2Proof/Decode.lean ====
section
/-! DEFINITION. The decoder (spec 30: the tables of R110 and R111, lengths R103), total on any bytes, and the encoder. -/

namespace Sys2Proof

/-! ## The primary table, one row per high nibble (spec 30 R110)

`n` is the byte after the opcode and `h` the one after it; `nn = h ++ n` (spec 30 R108, 20 R75). -/

/-- Row 0x of the primary table (R110). -/
def primaryRow0 (n h : Byte) : List Instr :=
  [.nop, .ldBcImm16 (h ++ n), .ldAtBcA, .incBc,
   .incB, .decB, .ldBImm8 n, .rlca,
   .ldAtImm16Sp (h ++ n), .addHlBc, .ldAAtBc, .decBc,
   .incC, .decC, .ldCImm8 n, .rrca]

/-- Row 1x of the primary table (R110). -/
def primaryRow1 (n h : Byte) : List Instr :=
  [.stop n, .ldDeImm16 (h ++ n), .ldAtDeA, .incDe,
   .incD, .decD, .ldDImm8 n, .rla,
   .jrRel n, .addHlDe, .ldAAtDe, .decDe,
   .incE, .decE, .ldEImm8 n, .rra]

/-- Row 2x of the primary table (R110). -/
def primaryRow2 (n h : Byte) : List Instr :=
  [.jrNZRel n, .ldHlImm16 (h ++ n), .ldAtHlIncA, .incHl,
   .incH, .decH, .ldHImm8 n, .daa,
   .jrZRel n, .addHlHl, .ldAAtHlInc, .decHl,
   .incL, .decL, .ldLImm8 n, .cpl]

/-- Row 3x of the primary table (R110). -/
def primaryRow3 (n h : Byte) : List Instr :=
  [.jrNCRel n, .ldSpImm16 (h ++ n), .ldAtHlDecA, .incSp,
   .incAtHl, .decAtHl, .ldAtHlImm8 n, .scf,
   .jrCRel n, .addHlSp, .ldAAtHlDec, .decSp,
   .incA, .decA, .ldAImm8 n, .ccf]

/-- Row 4x of the primary table (R110). -/
def primaryRow4 (_n _h : Byte) : List Instr :=
  [.ldBB, .ldBC, .ldBD, .ldBE,
   .ldBH, .ldBL, .ldBAtHl, .ldBA,
   .ldCB, .ldCC, .ldCD, .ldCE,
   .ldCH, .ldCL, .ldCAtHl, .ldCA]

/-- Row 5x of the primary table (R110). -/
def primaryRow5 (_n _h : Byte) : List Instr :=
  [.ldDB, .ldDC, .ldDD, .ldDE,
   .ldDH, .ldDL, .ldDAtHl, .ldDA,
   .ldEB, .ldEC, .ldED, .ldEE,
   .ldEH, .ldEL, .ldEAtHl, .ldEA]

/-- Row 6x of the primary table (R110). -/
def primaryRow6 (_n _h : Byte) : List Instr :=
  [.ldHB, .ldHC, .ldHD, .ldHE,
   .ldHH, .ldHL, .ldHAtHl, .ldHA,
   .ldLB, .ldLC, .ldLD, .ldLE,
   .ldLH, .ldLL, .ldLAtHl, .ldLA]

/-- Row 7x of the primary table (R110). -/
def primaryRow7 (_n _h : Byte) : List Instr :=
  [.ldAtHlB, .ldAtHlC, .ldAtHlD, .ldAtHlE,
   .ldAtHlH, .ldAtHlL, .halt, .ldAtHlA,
   .ldAB, .ldAC, .ldAD, .ldAE,
   .ldAH, .ldAL, .ldAAtHl, .ldAA]

/-- Row 8x of the primary table (R110). -/
def primaryRow8 (_n _h : Byte) : List Instr :=
  [.addAB, .addAC, .addAD, .addAE,
   .addAH, .addAL, .addAAtHl, .addAA,
   .adcAB, .adcAC, .adcAD, .adcAE,
   .adcAH, .adcAL, .adcAAtHl, .adcAA]

/-- Row 9x of the primary table (R110). -/
def primaryRow9 (_n _h : Byte) : List Instr :=
  [.subB, .subC, .subD, .subE,
   .subH, .subL, .subAtHl, .subA,
   .sbcAB, .sbcAC, .sbcAD, .sbcAE,
   .sbcAH, .sbcAL, .sbcAAtHl, .sbcAA]

/-- Row Ax of the primary table (R110). -/
def primaryRowA (_n _h : Byte) : List Instr :=
  [.andB, .andC, .andD, .andE,
   .andH, .andL, .andAtHl, .andA,
   .xorB, .xorC, .xorD, .xorE,
   .xorH, .xorL, .xorAtHl, .xorA]

/-- Row Bx of the primary table (R110). -/
def primaryRowB (_n _h : Byte) : List Instr :=
  [.orB, .orC, .orD, .orE,
   .orH, .orL, .orAtHl, .orA,
   .cpB, .cpC, .cpD, .cpE,
   .cpH, .cpL, .cpAtHl, .cpA]

/-- Row Cx of the primary table (R110). -/
def primaryRowC (n h : Byte) : List Instr :=
  [.retNZ, .popBc, .jpNZImm16 (h ++ n), .jpImm16 (h ++ n),
   .callNZImm16 (h ++ n), .pushBc, .addAImm8 n, .rst00,
   .retZ, .ret, .jpZImm16 (h ++ n), .prefixCb,
   .callZImm16 (h ++ n), .callImm16 (h ++ n), .adcAImm8 n, .rst08]

/-- Row Dx of the primary table (R110). -/
def primaryRowD (n h : Byte) : List Instr :=
  [.retNC, .popDe, .jpNCImm16 (h ++ n), .illegalD3,
   .callNCImm16 (h ++ n), .pushDe, .subImm8 n, .rst10,
   .retC, .reti, .jpCImm16 (h ++ n), .illegalDB,
   .callCImm16 (h ++ n), .illegalDD, .sbcAImm8 n, .rst18]

/-- Row Ex of the primary table (R110). -/
def primaryRowE (n h : Byte) : List Instr :=
  [.ldhAtImm8A n, .popHl, .ldAtCA, .illegalE3,
   .illegalE4, .pushHl, .andImm8 n, .rst20,
   .addSpRel n, .jpHl, .ldAtImm16A (h ++ n), .illegalEB,
   .illegalEC, .illegalED, .xorImm8 n, .rst28]

/-- Row Fx of the primary table (R110). -/
def primaryRowF (n h : Byte) : List Instr :=
  [.ldhAAtImm8 n, .popAf, .ldAAtC, .di,
   .illegalF4, .pushAf, .orImm8 n, .rst30,
   .ldHlSpRel n, .ldSpHl, .ldAAtImm16 (h ++ n), .ei,
   .illegalFC, .illegalFD, .cpImm8 n, .rst38]

/-- The sixteen rows of the primary table in order (R110). -/
def primaryTable (n h : Byte) : List (List Instr) :=
  [primaryRow0 n h, primaryRow1 n h, primaryRow2 n h, primaryRow3 n h,
   primaryRow4 n h, primaryRow5 n h, primaryRow6 n h, primaryRow7 n h,
   primaryRow8 n h, primaryRow9 n h, primaryRowA n h, primaryRowB n h,
   primaryRowC n h, primaryRowD n h, primaryRowE n h, primaryRowF n h]

/-- The cell of the primary table for opcode `o`: high nibble row, low nibble column (R110). The table has every cell,
so the default is never taken (`Laws.Decode`). -/
def decodePrimary (o n h : Byte) : Instr :=
  ((primaryTable n h).getD (o.toNat / 16) []).getD (o.toNat % 16) .nop

/-! ## The CB-extension table, one row per value of `c[7:3]` (spec 30 R111) -/

/-- Rotate/shift group, x = 0: rows y = 0 to 7, columns z = 0 to 7 (R111). -/
def cbTable0 : List (List Instr) :=
  [[.rlcB, .rlcC, .rlcD, .rlcE, .rlcH, .rlcL, .rlcAtHl, .rlcA],
   [.rrcB, .rrcC, .rrcD, .rrcE, .rrcH, .rrcL, .rrcAtHl, .rrcA],
   [.rlB, .rlC, .rlD, .rlE, .rlH, .rlL, .rlAtHl, .rlA],
   [.rrB, .rrC, .rrD, .rrE, .rrH, .rrL, .rrAtHl, .rrA],
   [.slaB, .slaC, .slaD, .slaE, .slaH, .slaL, .slaAtHl, .slaA],
   [.sraB, .sraC, .sraD, .sraE, .sraH, .sraL, .sraAtHl, .sraA],
   [.swapB, .swapC, .swapD, .swapE, .swapH, .swapL, .swapAtHl, .swapA],
   [.srlB, .srlC, .srlD, .srlE, .srlH, .srlL, .srlAtHl, .srlA]]

/-- BIT, x = 1: rows y = 0 to 7, columns z = 0 to 7 (R111). -/
def cbTable1 : List (List Instr) :=
  [[.bit0B, .bit0C, .bit0D, .bit0E, .bit0H, .bit0L, .bit0AtHl, .bit0A],
   [.bit1B, .bit1C, .bit1D, .bit1E, .bit1H, .bit1L, .bit1AtHl, .bit1A],
   [.bit2B, .bit2C, .bit2D, .bit2E, .bit2H, .bit2L, .bit2AtHl, .bit2A],
   [.bit3B, .bit3C, .bit3D, .bit3E, .bit3H, .bit3L, .bit3AtHl, .bit3A],
   [.bit4B, .bit4C, .bit4D, .bit4E, .bit4H, .bit4L, .bit4AtHl, .bit4A],
   [.bit5B, .bit5C, .bit5D, .bit5E, .bit5H, .bit5L, .bit5AtHl, .bit5A],
   [.bit6B, .bit6C, .bit6D, .bit6E, .bit6H, .bit6L, .bit6AtHl, .bit6A],
   [.bit7B, .bit7C, .bit7D, .bit7E, .bit7H, .bit7L, .bit7AtHl, .bit7A]]

/-- RES, x = 2: rows y = 0 to 7, columns z = 0 to 7 (R111). -/
def cbTable2 : List (List Instr) :=
  [[.res0B, .res0C, .res0D, .res0E, .res0H, .res0L, .res0AtHl, .res0A],
   [.res1B, .res1C, .res1D, .res1E, .res1H, .res1L, .res1AtHl, .res1A],
   [.res2B, .res2C, .res2D, .res2E, .res2H, .res2L, .res2AtHl, .res2A],
   [.res3B, .res3C, .res3D, .res3E, .res3H, .res3L, .res3AtHl, .res3A],
   [.res4B, .res4C, .res4D, .res4E, .res4H, .res4L, .res4AtHl, .res4A],
   [.res5B, .res5C, .res5D, .res5E, .res5H, .res5L, .res5AtHl, .res5A],
   [.res6B, .res6C, .res6D, .res6E, .res6H, .res6L, .res6AtHl, .res6A],
   [.res7B, .res7C, .res7D, .res7E, .res7H, .res7L, .res7AtHl, .res7A]]

/-- SET, x = 3: rows y = 0 to 7, columns z = 0 to 7 (R111). -/
def cbTable3 : List (List Instr) :=
  [[.set0B, .set0C, .set0D, .set0E, .set0H, .set0L, .set0AtHl, .set0A],
   [.set1B, .set1C, .set1D, .set1E, .set1H, .set1L, .set1AtHl, .set1A],
   [.set2B, .set2C, .set2D, .set2E, .set2H, .set2L, .set2AtHl, .set2A],
   [.set3B, .set3C, .set3D, .set3E, .set3H, .set3L, .set3AtHl, .set3A],
   [.set4B, .set4C, .set4D, .set4E, .set4H, .set4L, .set4AtHl, .set4A],
   [.set5B, .set5C, .set5D, .set5E, .set5H, .set5L, .set5AtHl, .set5A],
   [.set6B, .set6C, .set6D, .set6E, .set6H, .set6L, .set6AtHl, .set6A],
   [.set7B, .set7C, .set7D, .set7E, .set7H, .set7L, .set7AtHl, .set7A]]

/-- The cell of the CB table for the second byte `c`: `x = c[7:6]`, `y = c[5:3]`, `z = c[2:0]` (R111). -/
def decodeCb (c : Byte) : Instr :=
  ((([cbTable0, cbTable1, cbTable2, cbTable3].getD (c.toNat / 64) []).getD (c.toNat / 8 % 8) []).getD
    (c.toNat % 8) .prefixCb)

/-! ## Lengths (spec 30 R103) -/

/-- The opcodes of format OP_NN (R103). -/
def opcodesNN : List Byte :=
  [0x01, 0x11, 0x21, 0x31, 0x08, 0xC2, 0xC3, 0xC4, 0xCA, 0xCC, 0xCD, 0xD2, 0xD4, 0xDA, 0xDC, 0xEA, 0xFA]

/-- The opcodes of formats OP_N and OP_E, and the prefix 0xCB, which takes one more byte (R103). -/
def opcodesN : List Byte :=
  [0x06, 0x0E, 0x16, 0x1E, 0x26, 0x2E, 0x36, 0x3E, 0xC6, 0xCE, 0xD6, 0xDE, 0xE6, 0xEE, 0xF6, 0xFE, 0xE0, 0xF0,
   0x10, 0x18, 0x20, 0x28, 0x30, 0x38, 0xE8, 0xF8, 0xCB]

/-- `length(o)`: the length of an instruction in bytes, a function of its first byte alone (R103). -/
def opLength (o : Byte) : Nat :=
  if opcodesNN.contains o then 3 else if opcodesN.contains o then 2 else 1

/-! ## Whole instructions -/

/-- The instruction whose first byte is `o` and whose later bytes, as many as it has, are `b1` and `b2`
(R100, R109). -/
def decodeInstr (o b1 b2 : Byte) : Instr :=
  if o = 0xCB then decodeCb b1 else decodePrimary o b1 b2

/-- Why a list of bytes holds no whole instruction. -/
inductive DecodeError where
  /-- There is no byte at all. -/
  | noByte
  /-- The first byte `o` asks for more bytes than the list has (R103). -/
  | truncated (o : Byte)
  deriving DecidableEq, Repr

/-- The first instruction of a list of bytes in stream order, with the bytes after it; total, rejecting by name. -/
def decodeBytes : List Byte → Except DecodeError (Instr × List Byte)
  | [] => .error .noByte
  | o :: rest =>
    match opLength o, rest with
    | 3, b1 :: b2 :: rest' => .ok (decodeInstr o b1 b2, rest')
    | 2, b1 :: rest' => .ok (decodeInstr o b1 0, rest')
    | 1, rest' => .ok (decodeInstr o 0 0, rest')
    | _, _ => .error (.truncated o)

/-- The three bytes, in stream order, of an instruction whose bits are `w`, numbered as spec/opcode_table.json numbers
them. A row of one byte (and the opcode byte of every row) has bit 0 as the least significant bit of the FIRST byte,
and later bytes count on from it. The rows behind the prefix number both bytes as `byte0 ++ byte1`, the prefix in the
HIGH half (R116), so a 16-bit word with 0xCB in bits 15..8 is read so (log 7). -/
def tableBytes (nbits w : Nat) : List Byte :=
  if nbits = 16 ∧ w / 256 % 256 = 0xCB then [0xCB, BitVec.ofNat 8 w, 0]
  else [BitVec.ofNat 8 w, BitVec.ofNat 8 (w / 256), BitVec.ofNat 8 (w / 65536)]

/-- The instruction the decoder reads from a table row's word (host interface; log 7). -/
def decodeTableWord (nbits w : Nat) : Option Instr :=
  match decodeBytes (tableBytes nbits w) with
  | .ok (i, _) => some i
  | .error _ => none

/-! ## The encoder -/

/-- The two bytes of `nn` in stream order, low byte first (R108). -/
def leBytes (nn : Word) : List Byte :=
  [nn.extractLsb' 0 8, nn.extractLsb' 8 8]

/-- The bytes of an instruction in stream order, from the rows of spec/opcode_table.json (R100, R116). The row
`PREFIX CB` is one byte, no whole instruction (R109). -/
def Instr.encode : Instr → List Byte
  | .ldBcImm16 nn => 0x01 :: leBytes nn
  | .ldBImm8 n => [0x06, n]
  | .ldAtImm16Sp nn => 0x08 :: leBytes nn
  | .ldCImm8 n => [0x0E, n]
  | .stop n => [0x10, n]
  | .ldDeImm16 nn => 0x11 :: leBytes nn
  | .ldDImm8 n => [0x16, n]
  | .jrRel e => [0x18, e]
  | .ldEImm8 n => [0x1E, n]
  | .jrNZRel e => [0x20, e]
  | .ldHlImm16 nn => 0x21 :: leBytes nn
  | .ldHImm8 n => [0x26, n]
  | .jrZRel e => [0x28, e]
  | .ldLImm8 n => [0x2E, n]
  | .jrNCRel e => [0x30, e]
  | .ldSpImm16 nn => 0x31 :: leBytes nn
  | .ldAtHlImm8 n => [0x36, n]
  | .jrCRel e => [0x38, e]
  | .ldAImm8 n => [0x3E, n]
  | .jpNZImm16 nn => 0xC2 :: leBytes nn
  | .jpImm16 nn => 0xC3 :: leBytes nn
  | .callNZImm16 nn => 0xC4 :: leBytes nn
  | .addAImm8 n => [0xC6, n]
  | .jpZImm16 nn => 0xCA :: leBytes nn
  | .callZImm16 nn => 0xCC :: leBytes nn
  | .callImm16 nn => 0xCD :: leBytes nn
  | .adcAImm8 n => [0xCE, n]
  | .jpNCImm16 nn => 0xD2 :: leBytes nn
  | .callNCImm16 nn => 0xD4 :: leBytes nn
  | .subImm8 n => [0xD6, n]
  | .jpCImm16 nn => 0xDA :: leBytes nn
  | .callCImm16 nn => 0xDC :: leBytes nn
  | .sbcAImm8 n => [0xDE, n]
  | .ldhAtImm8A n => [0xE0, n]
  | .andImm8 n => [0xE6, n]
  | .addSpRel e => [0xE8, e]
  | .ldAtImm16A nn => 0xEA :: leBytes nn
  | .xorImm8 n => [0xEE, n]
  | .ldhAAtImm8 n => [0xF0, n]
  | .orImm8 n => [0xF6, n]
  | .ldHlSpRel e => [0xF8, e]
  | .ldAAtImm16 nn => 0xFA :: leBytes nn
  | .cpImm8 n => [0xFE, n]
  | .nop => [0x00]
  | .ldAtBcA => [0x02]
  | .incBc => [0x03]
  | .incB => [0x04]
  | .decB => [0x05]
  | .rlca => [0x07]
  | .addHlBc => [0x09]
  | .ldAAtBc => [0x0A]
  | .decBc => [0x0B]
  | .incC => [0x0C]
  | .decC => [0x0D]
  | .rrca => [0x0F]
  | .ldAtDeA => [0x12]
  | .incDe => [0x13]
  | .incD => [0x14]
  | .decD => [0x15]
  | .rla => [0x17]
  | .addHlDe => [0x19]
  | .ldAAtDe => [0x1A]
  | .decDe => [0x1B]
  | .incE => [0x1C]
  | .decE => [0x1D]
  | .rra => [0x1F]
  | .ldAtHlIncA => [0x22]
  | .incHl => [0x23]
  | .incH => [0x24]
  | .decH => [0x25]
  | .daa => [0x27]
  | .addHlHl => [0x29]
  | .ldAAtHlInc => [0x2A]
  | .decHl => [0x2B]
  | .incL => [0x2C]
  | .decL => [0x2D]
  | .cpl => [0x2F]
  | .ldAtHlDecA => [0x32]
  | .incSp => [0x33]
  | .incAtHl => [0x34]
  | .decAtHl => [0x35]
  | .scf => [0x37]
  | .addHlSp => [0x39]
  | .ldAAtHlDec => [0x3A]
  | .decSp => [0x3B]
  | .incA => [0x3C]
  | .decA => [0x3D]
  | .ccf => [0x3F]
  | .ldBB => [0x40]
  | .ldBC => [0x41]
  | .ldBD => [0x42]
  | .ldBE => [0x43]
  | .ldBH => [0x44]
  | .ldBL => [0x45]
  | .ldBAtHl => [0x46]
  | .ldBA => [0x47]
  | .ldCB => [0x48]
  | .ldCC => [0x49]
  | .ldCD => [0x4A]
  | .ldCE => [0x4B]
  | .ldCH => [0x4C]
  | .ldCL => [0x4D]
  | .ldCAtHl => [0x4E]
  | .ldCA => [0x4F]
  | .ldDB => [0x50]
  | .ldDC => [0x51]
  | .ldDD => [0x52]
  | .ldDE => [0x53]
  | .ldDH => [0x54]
  | .ldDL => [0x55]
  | .ldDAtHl => [0x56]
  | .ldDA => [0x57]
  | .ldEB => [0x58]
  | .ldEC => [0x59]
  | .ldED => [0x5A]
  | .ldEE => [0x5B]
  | .ldEH => [0x5C]
  | .ldEL => [0x5D]
  | .ldEAtHl => [0x5E]
  | .ldEA => [0x5F]
  | .ldHB => [0x60]
  | .ldHC => [0x61]
  | .ldHD => [0x62]
  | .ldHE => [0x63]
  | .ldHH => [0x64]
  | .ldHL => [0x65]
  | .ldHAtHl => [0x66]
  | .ldHA => [0x67]
  | .ldLB => [0x68]
  | .ldLC => [0x69]
  | .ldLD => [0x6A]
  | .ldLE => [0x6B]
  | .ldLH => [0x6C]
  | .ldLL => [0x6D]
  | .ldLAtHl => [0x6E]
  | .ldLA => [0x6F]
  | .ldAtHlB => [0x70]
  | .ldAtHlC => [0x71]
  | .ldAtHlD => [0x72]
  | .ldAtHlE => [0x73]
  | .ldAtHlH => [0x74]
  | .ldAtHlL => [0x75]
  | .halt => [0x76]
  | .ldAtHlA => [0x77]
  | .ldAB => [0x78]
  | .ldAC => [0x79]
  | .ldAD => [0x7A]
  | .ldAE => [0x7B]
  | .ldAH => [0x7C]
  | .ldAL => [0x7D]
  | .ldAAtHl => [0x7E]
  | .ldAA => [0x7F]
  | .addAB => [0x80]
  | .addAC => [0x81]
  | .addAD => [0x82]
  | .addAE => [0x83]
  | .addAH => [0x84]
  | .addAL => [0x85]
  | .addAAtHl => [0x86]
  | .addAA => [0x87]
  | .adcAB => [0x88]
  | .adcAC => [0x89]
  | .adcAD => [0x8A]
  | .adcAE => [0x8B]
  | .adcAH => [0x8C]
  | .adcAL => [0x8D]
  | .adcAAtHl => [0x8E]
  | .adcAA => [0x8F]
  | .subB => [0x90]
  | .subC => [0x91]
  | .subD => [0x92]
  | .subE => [0x93]
  | .subH => [0x94]
  | .subL => [0x95]
  | .subAtHl => [0x96]
  | .subA => [0x97]
  | .sbcAB => [0x98]
  | .sbcAC => [0x99]
  | .sbcAD => [0x9A]
  | .sbcAE => [0x9B]
  | .sbcAH => [0x9C]
  | .sbcAL => [0x9D]
  | .sbcAAtHl => [0x9E]
  | .sbcAA => [0x9F]
  | .andB => [0xA0]
  | .andC => [0xA1]
  | .andD => [0xA2]
  | .andE => [0xA3]
  | .andH => [0xA4]
  | .andL => [0xA5]
  | .andAtHl => [0xA6]
  | .andA => [0xA7]
  | .xorB => [0xA8]
  | .xorC => [0xA9]
  | .xorD => [0xAA]
  | .xorE => [0xAB]
  | .xorH => [0xAC]
  | .xorL => [0xAD]
  | .xorAtHl => [0xAE]
  | .xorA => [0xAF]
  | .orB => [0xB0]
  | .orC => [0xB1]
  | .orD => [0xB2]
  | .orE => [0xB3]
  | .orH => [0xB4]
  | .orL => [0xB5]
  | .orAtHl => [0xB6]
  | .orA => [0xB7]
  | .cpB => [0xB8]
  | .cpC => [0xB9]
  | .cpD => [0xBA]
  | .cpE => [0xBB]
  | .cpH => [0xBC]
  | .cpL => [0xBD]
  | .cpAtHl => [0xBE]
  | .cpA => [0xBF]
  | .retNZ => [0xC0]
  | .popBc => [0xC1]
  | .pushBc => [0xC5]
  | .rst00 => [0xC7]
  | .retZ => [0xC8]
  | .ret => [0xC9]
  | .prefixCb => [0xCB]
  | .rst08 => [0xCF]
  | .retNC => [0xD0]
  | .popDe => [0xD1]
  | .illegalD3 => [0xD3]
  | .pushDe => [0xD5]
  | .rst10 => [0xD7]
  | .retC => [0xD8]
  | .reti => [0xD9]
  | .illegalDB => [0xDB]
  | .illegalDD => [0xDD]
  | .rst18 => [0xDF]
  | .popHl => [0xE1]
  | .ldAtCA => [0xE2]
  | .illegalE3 => [0xE3]
  | .illegalE4 => [0xE4]
  | .pushHl => [0xE5]
  | .rst20 => [0xE7]
  | .jpHl => [0xE9]
  | .illegalEB => [0xEB]
  | .illegalEC => [0xEC]
  | .illegalED => [0xED]
  | .rst28 => [0xEF]
  | .popAf => [0xF1]
  | .ldAAtC => [0xF2]
  | .di => [0xF3]
  | .illegalF4 => [0xF4]
  | .pushAf => [0xF5]
  | .rst30 => [0xF7]
  | .ldSpHl => [0xF9]
  | .ei => [0xFB]
  | .illegalFC => [0xFC]
  | .illegalFD => [0xFD]
  | .rst38 => [0xFF]
  | .rlcB => [0xCB, 0x00]
  | .rlcC => [0xCB, 0x01]
  | .rlcD => [0xCB, 0x02]
  | .rlcE => [0xCB, 0x03]
  | .rlcH => [0xCB, 0x04]
  | .rlcL => [0xCB, 0x05]
  | .rlcAtHl => [0xCB, 0x06]
  | .rlcA => [0xCB, 0x07]
  | .rrcB => [0xCB, 0x08]
  | .rrcC => [0xCB, 0x09]
  | .rrcD => [0xCB, 0x0A]
  | .rrcE => [0xCB, 0x0B]
  | .rrcH => [0xCB, 0x0C]
  | .rrcL => [0xCB, 0x0D]
  | .rrcAtHl => [0xCB, 0x0E]
  | .rrcA => [0xCB, 0x0F]
  | .rlB => [0xCB, 0x10]
  | .rlC => [0xCB, 0x11]
  | .rlD => [0xCB, 0x12]
  | .rlE => [0xCB, 0x13]
  | .rlH => [0xCB, 0x14]
  | .rlL => [0xCB, 0x15]
  | .rlAtHl => [0xCB, 0x16]
  | .rlA => [0xCB, 0x17]
  | .rrB => [0xCB, 0x18]
  | .rrC => [0xCB, 0x19]
  | .rrD => [0xCB, 0x1A]
  | .rrE => [0xCB, 0x1B]
  | .rrH => [0xCB, 0x1C]
  | .rrL => [0xCB, 0x1D]
  | .rrAtHl => [0xCB, 0x1E]
  | .rrA => [0xCB, 0x1F]
  | .slaB => [0xCB, 0x20]
  | .slaC => [0xCB, 0x21]
  | .slaD => [0xCB, 0x22]
  | .slaE => [0xCB, 0x23]
  | .slaH => [0xCB, 0x24]
  | .slaL => [0xCB, 0x25]
  | .slaAtHl => [0xCB, 0x26]
  | .slaA => [0xCB, 0x27]
  | .sraB => [0xCB, 0x28]
  | .sraC => [0xCB, 0x29]
  | .sraD => [0xCB, 0x2A]
  | .sraE => [0xCB, 0x2B]
  | .sraH => [0xCB, 0x2C]
  | .sraL => [0xCB, 0x2D]
  | .sraAtHl => [0xCB, 0x2E]
  | .sraA => [0xCB, 0x2F]
  | .swapB => [0xCB, 0x30]
  | .swapC => [0xCB, 0x31]
  | .swapD => [0xCB, 0x32]
  | .swapE => [0xCB, 0x33]
  | .swapH => [0xCB, 0x34]
  | .swapL => [0xCB, 0x35]
  | .swapAtHl => [0xCB, 0x36]
  | .swapA => [0xCB, 0x37]
  | .srlB => [0xCB, 0x38]
  | .srlC => [0xCB, 0x39]
  | .srlD => [0xCB, 0x3A]
  | .srlE => [0xCB, 0x3B]
  | .srlH => [0xCB, 0x3C]
  | .srlL => [0xCB, 0x3D]
  | .srlAtHl => [0xCB, 0x3E]
  | .srlA => [0xCB, 0x3F]
  | .bit0B => [0xCB, 0x40]
  | .bit0C => [0xCB, 0x41]
  | .bit0D => [0xCB, 0x42]
  | .bit0E => [0xCB, 0x43]
  | .bit0H => [0xCB, 0x44]
  | .bit0L => [0xCB, 0x45]
  | .bit0AtHl => [0xCB, 0x46]
  | .bit0A => [0xCB, 0x47]
  | .bit1B => [0xCB, 0x48]
  | .bit1C => [0xCB, 0x49]
  | .bit1D => [0xCB, 0x4A]
  | .bit1E => [0xCB, 0x4B]
  | .bit1H => [0xCB, 0x4C]
  | .bit1L => [0xCB, 0x4D]
  | .bit1AtHl => [0xCB, 0x4E]
  | .bit1A => [0xCB, 0x4F]
  | .bit2B => [0xCB, 0x50]
  | .bit2C => [0xCB, 0x51]
  | .bit2D => [0xCB, 0x52]
  | .bit2E => [0xCB, 0x53]
  | .bit2H => [0xCB, 0x54]
  | .bit2L => [0xCB, 0x55]
  | .bit2AtHl => [0xCB, 0x56]
  | .bit2A => [0xCB, 0x57]
  | .bit3B => [0xCB, 0x58]
  | .bit3C => [0xCB, 0x59]
  | .bit3D => [0xCB, 0x5A]
  | .bit3E => [0xCB, 0x5B]
  | .bit3H => [0xCB, 0x5C]
  | .bit3L => [0xCB, 0x5D]
  | .bit3AtHl => [0xCB, 0x5E]
  | .bit3A => [0xCB, 0x5F]
  | .bit4B => [0xCB, 0x60]
  | .bit4C => [0xCB, 0x61]
  | .bit4D => [0xCB, 0x62]
  | .bit4E => [0xCB, 0x63]
  | .bit4H => [0xCB, 0x64]
  | .bit4L => [0xCB, 0x65]
  | .bit4AtHl => [0xCB, 0x66]
  | .bit4A => [0xCB, 0x67]
  | .bit5B => [0xCB, 0x68]
  | .bit5C => [0xCB, 0x69]
  | .bit5D => [0xCB, 0x6A]
  | .bit5E => [0xCB, 0x6B]
  | .bit5H => [0xCB, 0x6C]
  | .bit5L => [0xCB, 0x6D]
  | .bit5AtHl => [0xCB, 0x6E]
  | .bit5A => [0xCB, 0x6F]
  | .bit6B => [0xCB, 0x70]
  | .bit6C => [0xCB, 0x71]
  | .bit6D => [0xCB, 0x72]
  | .bit6E => [0xCB, 0x73]
  | .bit6H => [0xCB, 0x74]
  | .bit6L => [0xCB, 0x75]
  | .bit6AtHl => [0xCB, 0x76]
  | .bit6A => [0xCB, 0x77]
  | .bit7B => [0xCB, 0x78]
  | .bit7C => [0xCB, 0x79]
  | .bit7D => [0xCB, 0x7A]
  | .bit7E => [0xCB, 0x7B]
  | .bit7H => [0xCB, 0x7C]
  | .bit7L => [0xCB, 0x7D]
  | .bit7AtHl => [0xCB, 0x7E]
  | .bit7A => [0xCB, 0x7F]
  | .res0B => [0xCB, 0x80]
  | .res0C => [0xCB, 0x81]
  | .res0D => [0xCB, 0x82]
  | .res0E => [0xCB, 0x83]
  | .res0H => [0xCB, 0x84]
  | .res0L => [0xCB, 0x85]
  | .res0AtHl => [0xCB, 0x86]
  | .res0A => [0xCB, 0x87]
  | .res1B => [0xCB, 0x88]
  | .res1C => [0xCB, 0x89]
  | .res1D => [0xCB, 0x8A]
  | .res1E => [0xCB, 0x8B]
  | .res1H => [0xCB, 0x8C]
  | .res1L => [0xCB, 0x8D]
  | .res1AtHl => [0xCB, 0x8E]
  | .res1A => [0xCB, 0x8F]
  | .res2B => [0xCB, 0x90]
  | .res2C => [0xCB, 0x91]
  | .res2D => [0xCB, 0x92]
  | .res2E => [0xCB, 0x93]
  | .res2H => [0xCB, 0x94]
  | .res2L => [0xCB, 0x95]
  | .res2AtHl => [0xCB, 0x96]
  | .res2A => [0xCB, 0x97]
  | .res3B => [0xCB, 0x98]
  | .res3C => [0xCB, 0x99]
  | .res3D => [0xCB, 0x9A]
  | .res3E => [0xCB, 0x9B]
  | .res3H => [0xCB, 0x9C]
  | .res3L => [0xCB, 0x9D]
  | .res3AtHl => [0xCB, 0x9E]
  | .res3A => [0xCB, 0x9F]
  | .res4B => [0xCB, 0xA0]
  | .res4C => [0xCB, 0xA1]
  | .res4D => [0xCB, 0xA2]
  | .res4E => [0xCB, 0xA3]
  | .res4H => [0xCB, 0xA4]
  | .res4L => [0xCB, 0xA5]
  | .res4AtHl => [0xCB, 0xA6]
  | .res4A => [0xCB, 0xA7]
  | .res5B => [0xCB, 0xA8]
  | .res5C => [0xCB, 0xA9]
  | .res5D => [0xCB, 0xAA]
  | .res5E => [0xCB, 0xAB]
  | .res5H => [0xCB, 0xAC]
  | .res5L => [0xCB, 0xAD]
  | .res5AtHl => [0xCB, 0xAE]
  | .res5A => [0xCB, 0xAF]
  | .res6B => [0xCB, 0xB0]
  | .res6C => [0xCB, 0xB1]
  | .res6D => [0xCB, 0xB2]
  | .res6E => [0xCB, 0xB3]
  | .res6H => [0xCB, 0xB4]
  | .res6L => [0xCB, 0xB5]
  | .res6AtHl => [0xCB, 0xB6]
  | .res6A => [0xCB, 0xB7]
  | .res7B => [0xCB, 0xB8]
  | .res7C => [0xCB, 0xB9]
  | .res7D => [0xCB, 0xBA]
  | .res7E => [0xCB, 0xBB]
  | .res7H => [0xCB, 0xBC]
  | .res7L => [0xCB, 0xBD]
  | .res7AtHl => [0xCB, 0xBE]
  | .res7A => [0xCB, 0xBF]
  | .set0B => [0xCB, 0xC0]
  | .set0C => [0xCB, 0xC1]
  | .set0D => [0xCB, 0xC2]
  | .set0E => [0xCB, 0xC3]
  | .set0H => [0xCB, 0xC4]
  | .set0L => [0xCB, 0xC5]
  | .set0AtHl => [0xCB, 0xC6]
  | .set0A => [0xCB, 0xC7]
  | .set1B => [0xCB, 0xC8]
  | .set1C => [0xCB, 0xC9]
  | .set1D => [0xCB, 0xCA]
  | .set1E => [0xCB, 0xCB]
  | .set1H => [0xCB, 0xCC]
  | .set1L => [0xCB, 0xCD]
  | .set1AtHl => [0xCB, 0xCE]
  | .set1A => [0xCB, 0xCF]
  | .set2B => [0xCB, 0xD0]
  | .set2C => [0xCB, 0xD1]
  | .set2D => [0xCB, 0xD2]
  | .set2E => [0xCB, 0xD3]
  | .set2H => [0xCB, 0xD4]
  | .set2L => [0xCB, 0xD5]
  | .set2AtHl => [0xCB, 0xD6]
  | .set2A => [0xCB, 0xD7]
  | .set3B => [0xCB, 0xD8]
  | .set3C => [0xCB, 0xD9]
  | .set3D => [0xCB, 0xDA]
  | .set3E => [0xCB, 0xDB]
  | .set3H => [0xCB, 0xDC]
  | .set3L => [0xCB, 0xDD]
  | .set3AtHl => [0xCB, 0xDE]
  | .set3A => [0xCB, 0xDF]
  | .set4B => [0xCB, 0xE0]
  | .set4C => [0xCB, 0xE1]
  | .set4D => [0xCB, 0xE2]
  | .set4E => [0xCB, 0xE3]
  | .set4H => [0xCB, 0xE4]
  | .set4L => [0xCB, 0xE5]
  | .set4AtHl => [0xCB, 0xE6]
  | .set4A => [0xCB, 0xE7]
  | .set5B => [0xCB, 0xE8]
  | .set5C => [0xCB, 0xE9]
  | .set5D => [0xCB, 0xEA]
  | .set5E => [0xCB, 0xEB]
  | .set5H => [0xCB, 0xEC]
  | .set5L => [0xCB, 0xED]
  | .set5AtHl => [0xCB, 0xEE]
  | .set5A => [0xCB, 0xEF]
  | .set6B => [0xCB, 0xF0]
  | .set6C => [0xCB, 0xF1]
  | .set6D => [0xCB, 0xF2]
  | .set6E => [0xCB, 0xF3]
  | .set6H => [0xCB, 0xF4]
  | .set6L => [0xCB, 0xF5]
  | .set6AtHl => [0xCB, 0xF6]
  | .set6A => [0xCB, 0xF7]
  | .set7B => [0xCB, 0xF8]
  | .set7C => [0xCB, 0xF9]
  | .set7D => [0xCB, 0xFA]
  | .set7E => [0xCB, 0xFB]
  | .set7H => [0xCB, 0xFC]
  | .set7L => [0xCB, 0xFD]
  | .set7AtHl => [0xCB, 0xFE]
  | .set7A => [0xCB, 0xFF]

end Sys2Proof
end

