-- ==== Sys2Proof/Machine/State.lean ====
section
/-! DEFINITION. The state of the machine as plain data, every piece the spec names, and its value after reset. -/

namespace Sys2Proof.Machine

/-- Bytes by address, in one canonical form: addresses strictly rising, no cell equal to what an unlisted address
reads as (`Memory.wf`). -/
abbrev Memory := List Host.Cell

/-- The eight 8-bit registers (spec 10 R13). `f` holds the flags Z, N, H, C in bits 7 to 4 (R16). -/
structure Regs where
  a : Byte
  f : Byte
  b : Byte
  c : Byte
  d : Byte
  e : Byte
  h : Byte
  l : Byte
  deriving DecidableEq, Repr

/-- The timer (spec 10 R25 to R27): the internal counter IC, TIMA, TMA, the three stored bits of TAC, and the delay
element set by a counted overflow. DIV is the high byte of `ic`, not state of its own. -/
structure Timer where
  ic : Word
  tima : Byte
  tma : Byte
  tac : BitVec 3
  overflowPending : Bool
  deriving DecidableEq, Repr

/-- The PPU's modes (spec 10 R33, 62 R391). -/
inductive PpuMode where
  /-- mode 0 -/
  | hblank
  /-- mode 1 -/
  | vblank
  /-- mode 2 -/
  | oamSearch
  /-- mode 3 -/
  | transfer
  deriving DecidableEq, Repr

/-- A sprite of the scanline buffer (spec 10 R34). `paletteSelect` false means OBP0; `fetched` marks a sprite already
mixed on this line. -/
structure Sprite where
  posY : Byte
  posX : Byte
  tileIndex : Byte
  paletteSelect : Bool
  flipX : Bool
  flipY : Bool
  priority : Bool
  fetched : Bool
  deriving DecidableEq, Repr

/-- Where a FIFO pixel comes from (spec 10 R35). -/
inductive SourceKind where
  | background | window | sprite
  deriving DecidableEq, Repr

/-- A FIFO pixel (spec 10 R35). -/
structure Pixel where
  colorIndex : BitVec 2
  sourceKind : SourceKind
  paletteSelect : Bool
  priority : Bool
  deriving DecidableEq, Repr

/-- The fetcher's "4-state micro-pipeline" (spec 10 R35). -/
inductive FetchState where
  | tileIndex | dataLow | dataHigh | push
  deriving DecidableEq, Repr

/-- The fetcher and compositor, alive only in mode 3 (spec 10 R35). `fphase` is 0 (false) or 1 (true). -/
structure Line where
  fstate : FetchState
  fphase : Bool
  tileCol : Fin 32
  inWindow : Bool
  tileIndex : Byte
  dataLow : Byte
  dataHigh : Byte
  fifo : List Pixel
  lx : Nat
  discard : Nat
  stall : Nat
  deriving DecidableEq, Repr

/-- The PPU (spec 10 R28 to R36). `statEn` holds STAT bits 6 to 3 in its bits 3 to 0. `fb` and `frame` hold one byte
(0 to 3) per pixel under the key `160 * y + x`; `frame` is the array last handed to the host and `frames` counts the
deliveries (62 R437). -/
structure Ppu where
  lcdc : Byte
  statEn : BitVec 4
  scy : Byte
  scx : Byte
  ly : Byte
  lyc : Byte
  bgp : Byte
  obp0 : Byte
  obp1 : Byte
  wy : Byte
  wx : Byte
  mode : PpuMode
  dot : Nat
  statLine : Bool
  spriteBuf : List Sprite
  line : Line
  fb : Memory
  frame : Memory
  frames : Nat
  deriving DecidableEq, Repr

/-- The whole machine. -/
structure State where
  /-- the eight 8-bit registers (10 R13) -/
  regs : Regs
  /-- the stack pointer (10 R18) -/
  sp : Word
  /-- the program counter (10 R17) -/
  pc : Word
  /-- the interrupt master enable (10 R19) -/
  ime : Bool
  /-- the interrupt enable register at 0xFFFF (10 R20) -/
  ie : Byte
  /-- the five stored bits of the interrupt request register IF (10 R21) -/
  ifr : BitVec 5
  /-- the CPU is suspended (10 R22) -/
  halt : Bool
  /-- the next opcode fetch does not advance PC (10 R23) -/
  haltBug : Bool
  /-- the timer (10 R25 to R27) -/
  timer : Timer
  /-- the PPU (10 R28 to R36) -/
  ppu : Ppu
  /-- the DMA register (10 R32) -/
  dma : Byte
  /-- clocks left of the tracked DMA transfer, read by nothing (10 R32, 20 R73) -/
  dmaBusy : Nat
  /-- the boot ROM is mapped at 0x0000 to 0x00FF (10 R38) -/
  bootRomEnabled : Bool
  /-- the boot ROM, keyed 0x00 to 0xFF (10 R37) -/
  bootRom : Memory
  /-- cartridge ROM, video RAM, cartridge RAM, work RAM, OAM and high RAM, each byte under its address in the map
  (work RAM under 0xC000 to 0xDFFF; 10 R37, 20 R60) -/
  mem : Memory
  /-- the parameter `cart_ram_present` (00 R6), never written by the machine -/
  cartRamPresent : Bool
  /-- the parameter `sprite_fetch_clocks`, at most 16 (00 R6, 62 R403), never written by the machine -/
  spriteFetchClocks : Fin 17
  /-- the clock accumulator of the current Step, and after it the total that Step returned (40 R125, log 5) -/
  clocks : Nat
  /-- `opcode_pc` of the current Step, the address its opcode was fetched from (40 R125, log 5) -/
  opcodePc : Word
  /-- MODEL'S OWN: how many free bytes reads have drawn so far (log 4) -/
  draws : Nat
  deriving DecidableEq, Repr

/-- Why the machine stops. -/
inductive Fault where
  /-- Raised by the eleven opcodes with no instruction (48 R306), with the opcode and the address it was fetched from
  (60 R315). SAFE: the spec makes it terminal, and no state follows. -/
  | illegalOpcode (opcode : Byte) (pc : Word)
  deriving DecidableEq, Repr

/-- Why the model gives no meaning. -/
inductive Refusal where
  /-- Raised by an arm of `exec` whose instruction has no meaning yet. SAFE: nothing can be proved of such a run. -/
  | notModelled (mnemonic : String)
  /-- Raised by STOP, which "is not given a meaning by this spec: the model refuses it" (48 R305). SAFE: nothing can be
  proved of a run that reaches it. -/
  | stop
  deriving DecidableEq, Repr

/-- The fetcher fields at reset: "`fstate = TileIndex`, all else 0 / false" (10 R44). -/
def Line.reset : Line where
  fstate := .tileIndex
  fphase := false
  tileCol := 0
  inWindow := false
  tileIndex := 0x00
  dataLow := 0x00
  dataHigh := 0x00
  fifo := []
  lx := 0
  discard := 0
  stall := 0

/-- The PPU at reset: LCD off, every register 0 (10 R44). DESIGN CHOICE (unsafe): `fb`, unspecified in R44, is all 0
(log 1); no frame has been delivered (log 12). -/
def Ppu.reset : Ppu where
  lcdc := 0x00
  statEn := 0
  scy := 0x00
  scx := 0x00
  ly := 0x00
  lyc := 0x00
  bgp := 0x00
  obp0 := 0x00
  obp1 := 0x00
  wy := 0x00
  wx := 0x00
  mode := .hblank
  dot := 0
  statLine := false
  spriteBuf := []
  line := Line.reset
  fb := []
  frame := []
  frames := 0

/-- The machine after reset in launch profile `boot` (10 R44, 70 R450). DESIGN CHOICE (unsafe): A to L, F bits 7..4 and
SP, unspecified in R44, are 0 (log 2); memory, unspecified there, has nothing listed and reads 0x00 (log 1);
`cart_ram_present` is false and `sprite_fetch_clocks` 6 (log 3). -/
def State.reset : State where
  regs := { a := 0x00, f := 0x00, b := 0x00, c := 0x00, d := 0x00, e := 0x00, h := 0x00, l := 0x00 }
  sp := 0x0000
  pc := 0x0000
  ime := false
  ie := 0x00
  ifr := 0
  halt := false
  haltBug := false
  timer := { ic := 0x0000, tima := 0x00, tma := 0x00, tac := 0, overflowPending := false }
  ppu := Ppu.reset
  dma := 0x00
  dmaBusy := 0
  bootRomEnabled := true
  bootRom := []
  mem := []
  cartRamPresent := false
  spriteFetchClocks := 6
  clocks := 0
  opcodePc := 0x0000
  draws := 0

end Sys2Proof.Machine
end

