-- ==== Sys2Proof/Machine/Memory.lean ====
section
/-! DEFINITION. Reading and writing one byte of a `Memory`, and its canonical form. -/

namespace Sys2Proof.Machine

/-- What an unlisted address reads as. The spec leaves the contents of every memory at launch unspecified (10 R44, R45).
DESIGN CHOICE (unsafe): 0x00 (log 1). -/
def Memory.unlisted : Byte := 0x00

/-- The canonical form: addresses strictly rising, and no cell equal to what an unlisted address reads as. -/
abbrev Memory.wf (m : Memory) : Prop :=
  m.Pairwise (fun x y => x.1 < y.1) ∧ ∀ x ∈ m, x.2 ≠ Memory.unlisted

/-- The byte at key `k`. -/
def Memory.read : Memory → Nat → Byte
  | [], _ => Memory.unlisted
  | (k', v) :: m, k => if k' = k then v else Memory.read m k

/-- The cells with `v` at key `k` in front of `m`, listed only if it differs from an unlisted byte. -/
def Memory.put (k : Nat) (v : Byte) (m : Memory) : Memory :=
  if v = Memory.unlisted then m else (k, v) :: m

/-- The memory with byte `v` at key `k`; keeps the canonical form. -/
def Memory.write : Memory → Nat → Byte → Memory
  | [], k, v => Memory.put k v []
  | (k', v') :: m, k, v =>
    if k < k' then Memory.put k v ((k', v') :: m)
    else if k = k' then Memory.put k v m
    else (k', v') :: Memory.write m k v

/-- The memory with the bytes of a list at keys `k`, `k + 1`, and on. -/
def Memory.load (m : Memory) (k : Nat) : List Byte → Memory
  | [] => m
  | v :: vs => Memory.load (m.write k v) (k + 1) vs

end Sys2Proof.Machine
end

