-- ==== Sys2Proof/Machine/Ppu.lean ====
section
/-! DEFINITION. The PPU: STAT line, OAM search, fetcher, compositor, mode machine, LCD on and off (spec 62). -/

namespace Sys2Proof.Machine

/-! ## Names for register bits -/

/-- `LCDC[7]`: the LCD is on (62 R390). -/
def Ppu.lcdOn (p : Ppu) : Bool := p.lcdc.getLsbD 7

/-- The sprite height in rows, from `LCDC[2]` (62 R406). -/
def Ppu.spriteHeight (p : Ppu) : Nat := if p.lcdc.getLsbD 2 then 16 else 8

/-- The mode's number, as STAT bits 1..0 show it (10 R29). -/
def PpuMode.code : PpuMode → Byte
  | .hblank => 0
  | .vblank => 1
  | .oamSearch => 2
  | .transfer => 3

/-! ## The STAT line (62 R397, R398) -/

/-- `StatLevel()`: the composite STAT signal (62 R397). STAT enable bits 6, 5, 4, 3 are bits 3, 2, 1, 0 of `statEn`. -/
def Ppu.statLevel (p : Ppu) : Bool :=
  p.lcdOn &&
    ((p.statEn.getLsbD 3 && p.ly == p.lyc)
      || (p.statEn.getLsbD 0 && p.mode == .hblank)
      || ((p.statEn.getLsbD 1 || p.statEn.getLsbD 2) && p.mode == .vblank)
      || (p.statEn.getLsbD 2 && p.mode == .oamSearch))

/-- `UpdateStatLine()`: a rising edge of the composite signal requests the STAT interrupt (62 R397). -/
def updateStatLine (s : State) : State :=
  let lv := s.ppu.statLevel
  { s with
    ifr := if lv && !s.ppu.statLine then s.ifr ||| 0b00010 else s.ifr
    ppu := { s.ppu with statLine := lv } }

/-! ## Raw reads (20 R74) -/

/-- Raw read of OAM byte `i` (20 R74). -/
def oamByte (mem : Memory) (i : Nat) : Byte := mem.read (0xFE00 + i)

/-- Raw read of the video RAM byte at map address `a` (20 R74). -/
def vramByte (mem : Memory) (a : Nat) : Byte := mem.read a

/-! ## OAM search (62 R405, R406) -/

/-- OAM entry `i` as a sprite (62 R405, R406). -/
def oamSprite (mem : Memory) (i : Nat) : Sprite :=
  let attr := oamByte mem (4 * i + 3)
  { posY := oamByte mem (4 * i)
    posX := oamByte mem (4 * i + 1)
    tileIndex := oamByte mem (4 * i + 2)
    paletteSelect := attr.getLsbD 4
    flipX := attr.getLsbD 5
    flipY := attr.getLsbD 6
    priority := attr.getLsbD 7
    fetched := false }

/-- The search's test: X is not 0 and the sprite's rows include line `ly`, compared in natural numbers (62 R406). -/
def Sprite.covers (sp : Sprite) (ly : Byte) (height : Nat) : Bool :=
  sp.posX != 0 && decide (sp.posY.toNat ≤ ly.toNat + 16) && decide (ly.toNat + 16 < sp.posY.toNat + height)

/-- The entries of a list, in order, that the search selects on top of `buf`, at most 10 in all (62 R406). -/
def selectSprites (mem : Memory) (ly : Byte) (height : Nat) : List Nat → List Sprite → List Sprite
  | [], buf => buf
  | i :: is, buf =>
    let sp := oamSprite mem i
    selectSprites mem ly height is
      (if buf.length < 10 && sp.covers ly height then buf ++ [sp] else buf)

/-- Insert a sprite after every one whose posX is not larger. -/
def insertByX (sp : Sprite) : List Sprite → List Sprite
  | [] => [sp]
  | x :: xs => if sp.posX.toNat < x.posX.toNat then sp :: x :: xs else x :: insertByX sp xs

/-- Sorted by posX ascending, stable (62 R406). -/
def sortByX : List Sprite → List Sprite → List Sprite
  | [], sorted => sorted
  | sp :: sps, sorted => sortByX sps (insertByX sp sorted)

/-- `OamSearch()` (62 R406). -/
def Ppu.search (mem : Memory) (p : Ppu) : Ppu :=
  { p with spriteBuf := sortByX (selectSprites mem p.ly p.spriteHeight (List.range 40) []) [] }

/-! ## Entry to mode 3 (62 R401) -/

/-- `EnterMode3()` (62 R401). -/
def Ppu.enterMode3 (p : Ppu) : Ppu :=
  { p with
    mode := .transfer
    line := { p.line with
      fstate := .tileIndex, fphase := false, tileCol := 0, inWindow := false
      fifo := [], lx := 0, stall := 0, discard := p.scx.toNat % 8 } }

/-! ## The fetcher (62 R410 to R414) -/

/-- `FetchY()` (62 R412). -/
def Ppu.fetchY (p : Ppu) : Byte :=
  if p.line.inWindow then p.ly - p.wy else p.ly + p.scy

/-- `MapAddr()` (62 R412). -/
def Ppu.mapAddr (p : Ppu) : Nat :=
  if p.line.inWindow then
    (if p.lcdc.getLsbD 6 then 0x9C00 else 0x9800) + 32 * (p.fetchY.toNat / 8) + p.line.tileCol.val
  else
    (if p.lcdc.getLsbD 3 then 0x9C00 else 0x9800) + 32 * (p.fetchY.toNat / 8)
      + (p.scx.toNat / 8 + p.line.tileCol.val) % 32

/-- `DataAddr()`: unsigned 0x8000-relative or signed 0x9000-relative (62 R413). -/
def Ppu.dataAddr (p : Ppu) : Nat :=
  (if p.lcdc.getLsbD 4 then 0x8000 + 16 * p.line.tileIndex.toNat
   else (0x9000 + 16 * p.line.tileIndex.toInt).toNat) + 2 * (p.fetchY.toNat % 8)

/-- `hi[bit] ++ lo[bit]`: a pixel's colour index (62 R414). -/
def colorAt (hi lo : Byte) (bit : Nat) : BitVec 2 :=
  BitVec.ofNat 2 (2 * bitNat (hi.getLsbD bit) + bitNat (lo.getLsbD bit))

/-- The eight pixels of the two bytes fetched, bit 7 first; all of colour 0 while `LCDC[0]` is 0 (62 R411, R414, R431). -/
def Ppu.tilePixels (p : Ppu) : List Pixel :=
  [7, 6, 5, 4, 3, 2, 1, 0].map fun bit =>
    { colorIndex := if p.lcdc.getLsbD 0 then colorAt p.line.dataHigh p.line.dataLow bit else 0
      sourceKind := if p.line.inWindow then .window else .background
      paletteSelect := false
      priority := false }

/-- `FetcherStep()` (62 R411). -/
def Ppu.fetcherStep (mem : Memory) (p : Ppu) : Ppu :=
  match p.line.fstate with
  | .tileIndex => { p with line := { p.line with tileIndex := vramByte mem p.mapAddr, fstate := .dataLow } }
  | .dataLow => { p with line := { p.line with dataLow := vramByte mem p.dataAddr, fstate := .dataHigh } }
  | .dataHigh => { p with line := { p.line with dataHigh := vramByte mem (p.dataAddr + 1), fstate := .push } }
  | .push =>
    if p.line.fifo.length ≤ 8 then
      { p with line := { p.line with
          fifo := p.line.fifo ++ p.tilePixels, tileCol := p.line.tileCol + 1, fstate := .tileIndex } }
    else p

/-- The fetcher's clock: it steps on the clock that takes `fphase` from 1 back to 0 (62 R402, R410). -/
def Ppu.fetcherClock (mem : Memory) (p : Ppu) : Ppu :=
  let p' := { p with line := { p.line with fphase := !p.line.fphase } }
  if p'.line.fphase then p' else p'.fetcherStep mem

/-! ## The window (62 R420) -/

/-- `WindowStarts()` (62 R420). -/
def Ppu.windowStarts (p : Ppu) : Bool :=
  p.lcdc.getLsbD 5 && !p.line.inWindow && decide (p.wy.toNat ≤ p.ly.toNat)
    && decide (p.line.lx + 7 = p.wx.toNat)

/-- `StartWindow()` (62 R420). -/
def Ppu.startWindow (p : Ppu) : Ppu :=
  { p with line := { p.line with
      inWindow := true, fifo := [], fstate := .tileIndex, fphase := false, tileCol := 0, discard := 0 } }

/-! ## Sprites (62 R425, R426) -/

/-- The row of the sprite shown on this line, flipped if asked; reduced modulo the height (62 R426, log 14). -/
def Ppu.spriteRow (p : Ppu) (sp : Sprite) : Nat :=
  let h := p.spriteHeight
  let row := (p.ly.toNat + 16 + 256 - sp.posY.toNat) % h
  if sp.flipY then h - 1 - row else row

/-- The address of the low byte of that row, unsigned from 0x8000 (62 R426). -/
def Ppu.spriteAddr (p : Ppu) (sp : Sprite) : Nat :=
  let tile := if p.spriteHeight = 16 then sp.tileIndex &&& 0xFE else sp.tileIndex
  0x8000 + 16 * tile.toNat + 2 * p.spriteRow sp

/-- One FIFO slot under sprite colour `c`: the sprite pixel wins unless it is transparent, the slot already holds a
sprite pixel, or it is behind a non-zero background pixel (62 R426). -/
def mixPixel (sp : Sprite) (c : BitVec 2) (px : Pixel) : Pixel :=
  if c != 0 && px.sourceKind != .sprite && !(sp.priority && px.colorIndex != 0) then
    { colorIndex := c, sourceKind := .sprite, paletteSelect := sp.paletteSelect, priority := sp.priority }
  else px

/-- The first eight slots of the FIFO, counted from `i`, mixed with the sprite's row bytes (62 R426). -/
def mixRow (sp : Sprite) (hi lo : Byte) : Nat → List Pixel → List Pixel
  | _, [] => []
  | i, px :: rest =>
    if i < 8 then mixPixel sp (colorAt hi lo (if sp.flipX then i else 7 - i)) px :: mixRow sp hi lo (i + 1) rest
    else px :: rest

/-- `MixSprite(s)` on the FIFO (62 R426). -/
def Ppu.mixSprite (mem : Memory) (p : Ppu) (sp : Sprite) (fifo : List Pixel) : List Pixel :=
  let a := p.spriteAddr sp
  mixRow sp (vramByte mem (a + 1)) (vramByte mem a) 0 fifo

/-- Every buffered sprite that starts at the pixel about to be output is mixed once and marked; the count of those is
returned (62 R402, R425). -/
def Ppu.mixDue (mem : Memory) (p : Ppu) : List Sprite → List Pixel → List Sprite × List Pixel × Nat
  | [], fifo => ([], fifo, 0)
  | sp :: sps, fifo =>
    if !sp.fetched && decide (sp.posX.toNat = p.line.lx + 8) then
      let r := p.mixDue mem sps (p.mixSprite mem sp fifo)
      ({ sp with fetched := true } :: r.1, r.2.1, r.2.2 + 1)
    else
      let r := p.mixDue mem sps fifo
      (sp :: r.1, r.2.1, r.2.2)

/-- The sprite trigger: each sprite mixed adds `sfc` clocks to `stall`; none is matched while `LCDC[1]` is 0
(62 R402, R425, R431). -/
def Ppu.fetchSprites (mem : Memory) (sfc : Nat) (p : Ppu) : Ppu :=
  if p.lcdc.getLsbD 1 then
    let r := p.mixDue mem p.spriteBuf p.line.fifo
    { p with spriteBuf := r.1, line := { p.line with fifo := r.2.1, stall := p.line.stall + sfc * r.2.2 } }
  else p

/-! ## The compositor (62 R402, R430) -/

/-- `Shade(p)`: the 2-bit colour through the pixel's palette (62 R430). -/
def Ppu.shade (p : Ppu) (px : Pixel) : Byte :=
  let pal : Byte := match px.sourceKind with
    | .sprite => if px.paletteSelect then p.obp1 else p.obp0
    | _ => p.bgp
  (pal >>> (2 * px.colorIndex.toNat)) &&& 0x3

/-- One pixel popped and written to `fb[LY][LX]`; the 160th ends mode 3 (62 R402, R396). -/
def Ppu.outputPixel (p : Ppu) (px : Pixel) (rest : List Pixel) : Ppu :=
  { p with
    fb := p.fb.write (160 * p.ly.toNat + p.line.lx) (p.shade px)
    mode := if p.line.lx + 1 = 160 then .hblank else p.mode
    line := { p.line with fifo := rest, lx := p.line.lx + 1 } }

/-- One clock of waiting for a sprite fetch (62 R402). -/
def Ppu.stallClock (p : Ppu) : Ppu :=
  { p with line := { p.line with stall := p.line.stall - 1 } }

/-- One discarded pixel (62 R416). -/
def Ppu.dropPixel (p : Ppu) : Ppu :=
  { p with line := { p.line with fifo := p.line.fifo.tail, discard := p.line.discard - 1 } }

/-- The compositor's output stage, once the sprites due here are mixed: wait for their fetch, or output a pixel and let
the fetcher run unless that pixel ended the line (62 R402). -/
def Ppu.outputClock (mem : Memory) (p : Ppu) : Ppu :=
  if p.line.stall > 0 then p.stallClock
  else match p.line.fifo with
    | [] => p.fetcherClock mem
    | px :: rest =>
      let p' := p.outputPixel px rest
      if p'.line.lx = 160 then p' else p'.fetcherClock mem

/-- `Mode3Clock()`: the compositor acts first, the fetcher second (62 R402). -/
def Ppu.mode3Clock (mem : Memory) (sfc : Nat) (p : Ppu) : Ppu :=
  if p.line.stall > 0 then p.stallClock
  else if p.line.fifo.length > 8 then
    if p.windowStarts then p.startWindow
    else if p.line.discard > 0 then p.dropPixel.fetcherClock mem
    else (p.fetchSprites mem sfc).outputClock mem
  else p.fetcherClock mem

/-! ## The mode machine (62 R389, R392) -/

/-- `DeliverFrame()`: the host is handed a copy of `fb` (62 R437, log 12). -/
def Ppu.deliverFrame (p : Ppu) : Ppu :=
  { p with frame := p.fb, frames := p.frames + 1 }

/-- The start of the next line, when `dot` reaches 456: LY advances modulo 154; line 144 enters VBlank and delivers the
frame; a visible line enters mode 2 and runs the OAM search; lines 145 to 153 stay in mode 1 (62 R389, R392, R395). -/
def Ppu.nextLine (mem : Memory) (p : Ppu) : Ppu :=
  let ly := BitVec.ofNat 8 ((p.ly.toNat + 1) % 154)
  let p' := { p with dot := 0, ly := ly }
  if ly = 144 then Ppu.deliverFrame { p' with mode := .vblank }
  else if ly.toNat < 144 then Ppu.search mem { p' with mode := .oamSearch }
  else p'

/-- The part of one PPU clock before the line wraps: mode 3's work, the dot counter, the entry to mode 3 (62 R389). -/
def Ppu.advanceDot (mem : Memory) (sfc : Nat) (p : Ppu) : Ppu :=
  let p1 := if p.mode = .transfer then p.mode3Clock mem sfc else p
  let p2 := { p1 with dot := p1.dot + 1 }
  if p2.dot = 80 ∧ p2.mode = .oamSearch then p2.enterMode3 else p2

/-- `PpuClock()` with the LCD on (62 R389). Entering line 144 requests the VBlank interrupt (`IF[0] <- 1`, R392). -/
def ppuClock (s : State) : State :=
  let p := s.ppu.advanceDot s.mem s.spriteFetchClocks.val
  if p.dot = 456 then
    let p' := p.nextLine s.mem
    updateStatLine { s with
      ppu := p'
      ifr := if p'.ly = 144 then s.ifr ||| 0b00001 else s.ifr }
  else updateStatLine { s with ppu := p }

/-- `PpuCatchUp(n)`: `n` PPU clocks while the LCD is on, nothing while it is off (62 R388, R390). -/
def ppuCatchUp (n : Nat) (s : State) : State :=
  if s.ppu.lcdOn then repeatN ppuClock n s else s

/-! ## LCD off and on (62 R390) -/

/-- `LCDC[7]` from 1 to 0 (62 R390). -/
def Ppu.switchOff (p : Ppu) : Ppu :=
  { p with ly := 0, dot := 0, mode := .hblank, statLine := false }

/-- `LCDC[7]` from 0 to 1: the top of a frame, before the STAT line is evaluated (62 R390). -/
def Ppu.switchOn (mem : Memory) (p : Ppu) : Ppu :=
  Ppu.search mem { p with ly := 0, dot := 0, mode := .oamSearch }

/-- A CPU write to LCDC, with the LCD on/off transition if bit 7 changed (20 R68, 62 R390). -/
def writeLcdc (v : Byte) (s : State) : State :=
  let p := { s.ppu with lcdc := v }
  if s.ppu.lcdOn && !p.lcdOn then { s with ppu := p.switchOff }
  else if !s.ppu.lcdOn && p.lcdOn then updateStatLine { s with ppu := p.switchOn s.mem }
  else { s with ppu := p }

end Sys2Proof.Machine
end

