-- ==== Sys2Proof/Machine/Timer.lean ====
section
/-! DEFINITION. The timer: the sub-step of one machine cycle, the tick of a whole Step, the register writes (spec 61). -/

namespace Sys2Proof.Machine

/-- `sel(TAC[1:0])`: the monitored bit of IC (61 R358). -/
def timerSelect (tac : BitVec 3) : Nat :=
  match (tac.extractLsb' 0 2).toNat with
  | 0 => 9
  | 1 => 3
  | 2 => 5
  | _ => 7

/-- The scheduled reload, one machine cycle after the overflow: TIMA from TMA (61 R361). -/
def Timer.reload (t : Timer) : Timer :=
  if t.overflowPending then { t with tima := t.tma, overflowPending := false } else t

/-- The increment of one sub-step: IC advances by 4, and a falling edge of the monitored bit counts in TIMA while the
timer is enabled; a counted wrap to 0x00 opens the overflow window (61 R357 to R361). -/
def Timer.count (t : Timer) : Timer :=
  let ic := t.ic + 4
  let b := timerSelect t.tac
  if t.tac.getLsbD 2 && t.ic.getLsbD b && !ic.getLsbD b then
    let tima := t.tima + 1
    { t with ic := ic, tima := tima, overflowPending := t.overflowPending || tima == 0x00 }
  else { t with ic := ic }

/-- One sub-step of the timer: the reload and its request of the Timer interrupt (`IF[2] <- 1`) first, then the
increment (61 R357). -/
def timerSubStep (s : State) : State :=
  { s with
    ifr := if s.timer.overflowPending then s.ifr ||| 0b00100 else s.ifr
    timer := s.timer.reload.count }

/-- `TimerTick(n)`: one sub-step per 4 clocks (61 R357). -/
def timerTick (n : Nat) (s : State) : State :=
  repeatN timerSubStep (n / 4) s

end Sys2Proof.Machine
end

