-- ==== Sys2Proof/Machine/Ops.lean ====
section
/-! DEFINITION. The router, the memory primitives, OAM DMA, the stack, taking an interrupt and returning from one. -/

namespace Sys2Proof.Machine

/-- What an instruction's meaning answers. -/
abbrev Out := Host.Outcome State Fault Refusal

/-! ## Clocks (00 R9, 40 R128) -/

/-- `clocks <- clocks + n`. -/
def addClocks (n : Nat) (s : State) : State := { s with clocks := s.clocks + n }

/-- `Internal()`: an "explicit internal delay step" of 4 clocks (00 R9). -/
def internal (s : State) : State := addClocks 4 s

/-- A value no rule constrains, a fresh one at each call: `draw(u8)` (00 R10, log 4). -/
def drawByte (s : State) : Byte × State :=
  (Config.freeByte s.draws, { s with draws := s.draws + 1 })

/-! ## The address map (20 R60) -/

/-- The rows of the address map; `rom` is its first two rows (20 R60). -/
inductive Region where
  | rom | vram | cartRam | wram | mirror | oam | unmapped | io | hram | ie
  deriving DecidableEq, Repr

/-- The row an address falls in (20 R60). -/
def regionOf (a : Word) : Region :=
  if a.toNat ≤ 0x7FFF then .rom
  else if a.toNat ≤ 0x9FFF then .vram
  else if a.toNat ≤ 0xBFFF then .cartRam
  else if a.toNat ≤ 0xDFFF then .wram
  else if a.toNat ≤ 0xFDFF then .mirror
  else if a.toNat ≤ 0xFE9F then .oam
  else if a.toNat ≤ 0xFEFF then .unmapped
  else if a.toNat ≤ 0xFF7F then .io
  else if a.toNat ≤ 0xFFFE then .hram
  else .ie

/-- The key of `mem` that holds the byte at an address of a stored row: 0xE000 to 0xFDFF mirrors 0xC000 to 0xDDFF
(20 R60, R62). -/
def homeKey (a : Word) : Nat :=
  match regionOf a with
  | .mirror => a.toNat - 0x2000
  | _ => a.toNat

/-- The accesses that the PPU mode blocks: `vram` in mode 3, `oam` in modes 2 and 3 (20 R63). -/
def gated (s : State) (a : Word) : Bool :=
  match regionOf a with
  | .vram => s.ppu.mode == .transfer
  | .oam => s.ppu.mode == .oamSearch || s.ppu.mode == .transfer
  | _ => false

/-! ## I/O registers (20 R67 to R70) -/

/-- What a read of STAT returns (10 R29). -/
def Ppu.statRead (p : Ppu) : Byte :=
  0x80 ||| (p.statEn.setWidth 8 <<< 3) ||| (if p.ly = p.lyc then 0x04 else 0x00) ||| p.mode.code

/-- The register that a read of an in-scope I/O address returns; none for the out-of-scope ones (20 R67). -/
def ioRegister (s : State) (a : Word) : Option Byte :=
  match a.toNat with
  | 0xFF04 => some (hiByte s.timer.ic)
  | 0xFF05 => some s.timer.tima
  | 0xFF06 => some s.timer.tma
  | 0xFF07 => some (0xF8 ||| s.timer.tac.setWidth 8)
  | 0xFF0F => some (0xE0 ||| s.ifr.setWidth 8)
  | 0xFF40 => some s.ppu.lcdc
  | 0xFF41 => some s.ppu.statRead
  | 0xFF42 => some s.ppu.scy
  | 0xFF43 => some s.ppu.scx
  | 0xFF44 => some s.ppu.ly
  | 0xFF45 => some s.ppu.lyc
  | 0xFF46 => some s.dma
  | 0xFF47 => some s.ppu.bgp
  | 0xFF48 => some s.ppu.obp0
  | 0xFF49 => some s.ppu.obp1
  | 0xFF4A => some s.ppu.wy
  | 0xFF4B => some s.ppu.wx
  | _ => none

/-- `IoRead(a)` (20 R67); an out-of-scope register reads as a free byte (20 R69, R70, log 4). -/
def ioRead (a : Word) (s : State) : Byte × State :=
  match ioRegister s a with
  | some v => (v, s)
  | none => drawByte s

/-! ## The read half of the router (20 R61) -/

/-- The router's read with the two gating tests removed: `DmaSourceRead` (20 R72). -/
def rawRead (a : Word) (s : State) : Byte × State :=
  match regionOf a with
  | .rom => (if s.bootRomEnabled && decide (a.toNat ≤ 0x00FF) then s.bootRom.read a.toNat else s.mem.read a.toNat, s)
  | .cartRam => if s.cartRamPresent then (s.mem.read (homeKey a), s) else drawByte s
  | .unmapped => (0x00, s)
  | .io => ioRead a s
  | .ie => (s.ie, s)
  | _ => (s.mem.read (homeKey a), s)

/-- `BusRead(a)`: a blocked read returns 0xFF (20 R61, R63). -/
def busRead (a : Word) (s : State) : Byte × State :=
  if gated s a then (0xFF, s) else rawRead a s

/-- A memory peek: what is at an address, not a bus access: no gating, no side effect, no clock cost (60 R340).
DESIGN CHOICE (safe): where a read would draw a free byte, the peek shows a free value of its own (log 19). -/
def peek (s : State) (a : Word) : Byte :=
  let r := rawRead a s
  if r.2.draws = s.draws then r.1 else Config.peekByte a.toNat s.draws

/-! ## OAM DMA (20 R72, R73) -/

/-- One byte of the copy: `oam[i] <- DmaSourceRead((v << 8) + i)`, stored raw (20 R72). -/
def dmaCopyByte (v : Byte) (s : State) (i : Nat) : State :=
  let r := rawRead (join v 0x00 + BitVec.ofNat 16 i) s
  { r.2 with mem := r.2.mem.write (0xFE00 + i) r.1 }

/-- `IoWrite(0xFF46, v)`: the register, the atomic copy of 160 bytes, and the tracked duration (20 R72, R73). -/
def dmaWrite (v : Byte) (s : State) : State :=
  let s' := (List.range 160).foldl (dmaCopyByte v) { s with dma := v }
  { s' with dmaBusy := 640 }

/-! ## The write half of the router (20 R62) -/

/-- `IoWrite(a, v)` (20 R68); a write to any other address of the page changes nothing (20 R69). -/
def ioWrite (a : Word) (v : Byte) (s : State) : State :=
  match a.toNat with
  | 0xFF04 => { s with timer := { s.timer with ic := 0x0000 } }
  | 0xFF05 => { s with timer := { s.timer with tima := v } }
  | 0xFF06 => { s with timer := { s.timer with tma := v } }
  | 0xFF07 => { s with timer := { s.timer with tac := v.setWidth 3 } }
  | 0xFF0F => { s with ifr := v.setWidth 5 }
  | 0xFF40 => writeLcdc v s
  | 0xFF41 => updateStatLine { s with ppu := { s.ppu with statEn := v.extractLsb' 3 4 } }
  | 0xFF42 => { s with ppu := { s.ppu with scy := v } }
  | 0xFF43 => { s with ppu := { s.ppu with scx := v } }
  | 0xFF45 => updateStatLine { s with ppu := { s.ppu with lyc := v } }
  | 0xFF46 => dmaWrite v s
  | 0xFF47 => { s with ppu := { s.ppu with bgp := v } }
  | 0xFF48 => { s with ppu := { s.ppu with obp0 := v } }
  | 0xFF49 => { s with ppu := { s.ppu with obp1 := v } }
  | 0xFF4A => { s with ppu := { s.ppu with wy := v } }
  | 0xFF4B => { s with ppu := { s.ppu with wx := v } }
  | 0xFF50 => if v = 0x00 then s else { s with bootRomEnabled := false }
  | _ => s

/-- A byte stored at the home of an address. -/
def storeByte (a : Word) (v : Byte) (s : State) : State :=
  { s with mem := s.mem.write (homeKey a) v }

/-- `BusWrite(a, v)`: blocked writes and writes to ROM, to the unmapped range and to absent cartridge RAM change
nothing (20 R62, R63, R66). -/
def busWrite (a : Word) (v : Byte) (s : State) : State :=
  if gated s a then s
  else match regionOf a with
    | .rom => s
    | .cartRam => if s.cartRamPresent then storeByte a v s else s
    | .unmapped => s
    | .io => ioWrite a v s
    | .ie => { s with ie := v }
    | _ => storeByte a v s

/-! ## Memory primitives of the CPU rules (00 R9) -/

/-- `MemRead(addr, 1)`: 4 clocks (00 R9). -/
def memRead (a : Word) (s : State) : Byte × State :=
  let r := busRead a s
  (r.1, addClocks 4 r.2)

/-- `MemWrite(addr, 1, v)`: 4 clocks (00 R9). -/
def memWrite (a : Word) (v : Byte) (s : State) : State :=
  addClocks 4 (busWrite a v s)

/-- `MemWrite(addr, 2, v)`: low byte first (00 R9). -/
def memWrite16 (a : Word) (v : Word) (s : State) : State :=
  memWrite (a + 1) (hiByte v) (memWrite a (loByte v) s)

/-- `Fetch8()`: a byte of the instruction stream; PC advances (00 R9). -/
def fetch8 (s : State) : Byte × State :=
  let r := memRead s.pc s
  (r.1, { r.2 with pc := r.2.pc + 1 })

/-- `Push16(v)`: SP decrements before each write, high byte first (00 R9). -/
def push16 (v : Word) (s : State) : State :=
  let s1 := memWrite (s.sp - 1) (hiByte v) { s with sp := s.sp - 1 }
  memWrite (s1.sp - 1) (loByte v) { s1 with sp := s1.sp - 1 }

/-- `Pop16()`: SP increments after each read, low byte first (00 R9). -/
def pop16 (s : State) : Word × State :=
  let lo := memRead s.sp s
  let s1 := { lo.2 with sp := lo.2.sp + 1 }
  let hi := memRead s1.sp s1
  (join hi.1 lo.1, { hi.2 with sp := hi.2.sp + 1 })

/-! ## Taking an interrupt, and returning from one (60 R321 to R327) -/

/-- `pending = IE & IF & 0x1F` (60 R318). -/
def pendingInterrupts (s : State) : BitVec 5 := s.ie.setWidth 5 &&& s.ifr

/-- The least `i` in 0..4 with `pending[i] = 1` (60 R324); 4 if bits 0 to 3 are clear. -/
def lowestPending (p : BitVec 5) : Nat :=
  if p.getLsbD 0 then 0
  else if p.getLsbD 1 then 1
  else if p.getLsbD 2 then 2
  else if p.getLsbD 3 then 3
  else 4

/-- The vector of interrupt `n`: `0x0040 + 8 * n` (60 R325). -/
def interruptVector (n : Nat) : Word := BitVec.ofNat 16 (0x0040 + 8 * n)

/-- TAKING AN INTERRUPT, the machine's one exception entry: IME and the request bit are cleared, PC is pushed, PC
becomes the vector, 20 clocks in all (60 R321, R325). -/
def takeInterrupt (n : Nat) (s : State) : State :=
  let s1 := internal (internal { s with ime := false, ifr := s.ifr &&& ~~~(1#5 <<< n) })
  let s2 := push16 s1.pc s1
  internal { s2 with pc := interruptVector n }

/-- `InterruptDispatch(ime_at_entry)`: a pending interrupt wakes a halted CPU, and is taken if IME was set when the Step
began (60 R321, R322, R323). -/
def interruptDispatch (imeAtEntry : Bool) (s : State) : State :=
  let pending := pendingInterrupts s
  if pending = 0 then s
  else
    let s1 := { s with halt := false }
    if imeAtEntry then takeInterrupt (lowestPending pending) s1 else s1

/-- A return: `a <- Pop16(); PC <- a; Internal()` (47 R288). -/
def returnFromCall (s : State) : State :=
  let r := pop16 s
  internal { r.2 with pc := r.1 }

/-- RETURNING FROM AN INTERRUPT: a return, and IME is set (47 R290, 60 R327). -/
def returnFromInterrupt (s : State) : State :=
  { returnFromCall s with ime := true }

/-! ## The hand-off after a Step (40 R127) -/

/-- The devices advance by the Step's total: timer, then PPU, then the DMA counter (40 R127). -/
def handOff (s : State) : State :=
  let n := s.clocks
  let s1 := ppuCatchUp n (timerTick n s)
  { s1 with dmaBusy := s1.dmaBusy - n }

/-- The end of a Step whose IME at entry was `ime0`: dispatch, then hand-off (40 R125 step 4, R127). -/
def endStep (ime0 : Bool) (s : State) : State :=
  handOff (interruptDispatch ime0 s)

/-! ## Placing bytes from outside (log 6) -/

/-- A byte put where a fetch at `a` reads it: the boot ROM where it is mapped, else the home of the address, else IE.
No bus access; addresses with no storage keep what they have (log 6). -/
def placeByte (a : Word) (v : Byte) (s : State) : State :=
  match regionOf a with
  | .rom =>
    if s.bootRomEnabled && decide (a.toNat ≤ 0x00FF) then { s with bootRom := s.bootRom.write a.toNat v }
    else storeByte a v s
  | .unmapped => s
  | .io => s
  | .ie => { s with ie := v }
  | _ => storeByte a v s

/-- A list of bytes put at `a`, `a + 1`, and on. -/
def placeBytes (a : Word) : List Byte → State → State
  | [], s => s
  | v :: vs, s => placeBytes (a + 1) vs (placeByte a v s)

end Sys2Proof.Machine
end

