-- ==== Sys2Proof/Machine/Operands.lean ====
section
/-! DEFINITION. Operand forms: 8-bit registers, pairs, the flag register's masking, conditions, addresses (spec 30 R104
to R108, 10 R14, R15). -/

namespace Sys2Proof.Machine

/-! ## 8-bit registers (30 R104) -/

/-- The value of `r`. -/
def Regs.get (g : Regs) : R8 → Byte
  | .b => g.b
  | .c => g.c
  | .d => g.d
  | .e => g.e
  | .h => g.h
  | .l => g.l
  | .a => g.a

/-- The registers with `v` in `r`. -/
def Regs.set (g : Regs) (r : R8) (v : Byte) : Regs :=
  match r with
  | .b => { g with b := v }
  | .c => { g with c := v }
  | .d => { g with d := v }
  | .e => { g with e := v }
  | .h => { g with h := v }
  | .l => { g with l := v }
  | .a => { g with a := v }

/-- `r[i]` read. -/
def getR8 (r : R8) (s : State) : Byte := s.regs.get r

/-- `r[i] <- v`. -/
def setR8 (r : R8) (v : Byte) (s : State) : State := { s with regs := s.regs.set r v }

/-- `F <- v`: "any write must mask" the low nibble (10 R15). -/
def setF (v : Byte) (s : State) : State := { s with regs := { s.regs with f := v &&& 0xF0 } }

/-! ## Pairs, first letter high (10 R14, 30 R105) -/

/-- BC. -/
def getBc (s : State) : Word := join s.regs.b s.regs.c

/-- DE. -/
def getDe (s : State) : Word := join s.regs.d s.regs.e

/-- HL. -/
def getHl (s : State) : Word := join s.regs.h s.regs.l

/-- AF. -/
def getAf (s : State) : Word := join s.regs.a s.regs.f

/-- `BC <- v`. -/
def setBc (v : Word) (s : State) : State := { s with regs := { s.regs with b := hiByte v, c := loByte v } }

/-- `DE <- v`. -/
def setDe (v : Word) (s : State) : State := { s with regs := { s.regs with d := hiByte v, e := loByte v } }

/-- `HL <- v`. -/
def setHl (v : Word) (s : State) : State := { s with regs := { s.regs with h := hiByte v, l := loByte v } }

/-- `AF <- v`, which masks F (10 R15). -/
def setAf (v : Word) (s : State) : State :=
  { s with regs := { s.regs with a := hiByte v, f := loByte v &&& 0xF0 } }

/-- `rr[p]` read. -/
def getR16 : R16 → State → Word
  | .bc, s => getBc s
  | .de, s => getDe s
  | .hl, s => getHl s
  | .sp, s => s.sp

/-- `rr[p] <- v`. -/
def setR16 : R16 → Word → State → State
  | .bc, v, s => setBc v s
  | .de, v, s => setDe v s
  | .hl, v, s => setHl v s
  | .sp, v, s => { s with sp := v }

/-- `rr2[p]` read. -/
def getR16Stack : R16Stack → State → Word
  | .bc, s => getBc s
  | .de, s => getDe s
  | .hl, s => getHl s
  | .af, s => getAf s

/-- `rr2[p] <- v`. -/
def setR16Stack : R16Stack → Word → State → State
  | .bc, v, s => setBc v s
  | .de, v, s => setDe v s
  | .hl, v, s => setHl v s
  | .af, v, s => setAf v s

/-! ## Flags read, conditions (10 R16, 30 R106) -/

/-- F.Z. -/
def flagZ (s : State) : Bool := s.regs.f.getLsbD 7

/-- F.N. -/
def flagN (s : State) : Bool := s.regs.f.getLsbD 6

/-- F.H. -/
def flagH (s : State) : Bool := s.regs.f.getLsbD 5

/-- F.C. -/
def flagC (s : State) : Bool := s.regs.f.getLsbD 4

/-- `cond(cc)` (30 R106, 47 R280). -/
def condHolds : Cond → State → Bool
  | .nz, s => !flagZ s
  | .z, s => flagZ s
  | .nc, s => !flagC s
  | .c, s => flagC s

/-! ## Addresses -/

/-- The high-page address `0xFF00 + zext_16(n)` (30 R108, 41 R153 to R156). -/
def highPage (n : Byte) : Word := 0xFF00 + zext16 n

/-- The RST target `zext_16(t) << 3` (30 R107). -/
def rstTarget (t : Fin 8) : Word := BitVec.ofNat 16 (8 * t.val)

end Sys2Proof.Machine
end

