-- ==== Sys2Proof/Machine/Flags.lean ====
section
/-! DEFINITION. Every result and flag computation: 8-bit and 16-bit arithmetic, logic, rotates, shifts, DAA (spec 43
R185 to R192, R217, R219, 44 R225, R228, 45 R235 to R239, 46 R251 to R271). -/

namespace Sys2Proof.Machine

/-- F as a byte: Z, N, H, C in bits 7 to 4, bits 3..0 zero (10 R15, R16). -/
def packF (z n h c : Bool) : Byte :=
  BitVec.ofNat 8 (128 * bitNat z + 64 * bitNat n + 32 * bitNat h + 16 * bitNat c)

/-- `nat(v[3:0])`. -/
def lowNibble (v : Byte) : Nat := v.toNat % 16

/-! ## The eight operations, each the result and the new F (43 R185 to R192) -/

/-- `adc8(a, b, c)` (R186). -/
def adc8 (a b : Byte) (c : Bool) : Byte × Byte :=
  let sum := a.toNat + b.toNat + bitNat c
  let res := BitVec.ofNat 8 sum
  (res, packF (res == 0) false (decide (lowNibble a + lowNibble b + bitNat c > 15)) (decide (sum > 255)))

/-- `add8(a, b)` (R185). -/
def add8 (a b : Byte) : Byte × Byte :=
  let sum := a.toNat + b.toNat
  let res := BitVec.ofNat 8 sum
  (res, packF (res == 0) false (decide (lowNibble a + lowNibble b > 15)) (decide (sum > 255)))

/-- `sub8(a, b)` (R187). -/
def sub8 (a b : Byte) : Byte × Byte :=
  let res := a - b
  (res, packF (res == 0) true (decide (lowNibble a < lowNibble b)) (decide (a.toNat < b.toNat)))

/-- `sbc8(a, b, c)` (R188). -/
def sbc8 (a b : Byte) (c : Bool) : Byte × Byte :=
  let res := a - b - BitVec.ofNat 8 (bitNat c)
  (res, packF (res == 0) true (decide (lowNibble a < lowNibble b + bitNat c))
    (decide (a.toNat < b.toNat + bitNat c)))

/-- `and8(a, b)` (R189). -/
def and8 (a b : Byte) : Byte × Byte :=
  let res := a &&& b
  (res, packF (res == 0) false true false)

/-- `xor8(a, b)` (R190). -/
def xor8 (a b : Byte) : Byte × Byte :=
  let res := a ^^^ b
  (res, packF (res == 0) false false false)

/-- `or8(a, b)` (R191). -/
def or8 (a b : Byte) : Byte × Byte :=
  let res := a ||| b
  (res, packF (res == 0) false false false)

/-- `cp8(a, b)`: the flags of `sub8` and no result; A keeps its value (R192). -/
def cp8 (a b : Byte) : Byte × Byte := (a, (sub8 a b).2)

/-- The value for A and the new F of an 8-bit operation on A, an operand and the carry. -/
def aluResult : AluOp → Byte → Byte → Bool → Byte × Byte
  | .add, a, x, _ => add8 a x
  | .adc, a, x, c => adc8 a x c
  | .sub, a, x, _ => sub8 a x
  | .sbc, a, x, c => sbc8 a x c
  | .and, a, x, _ => and8 a x
  | .xor, a, x, _ => xor8 a x
  | .or, a, x, _ => or8 a x
  | .cp, a, x, _ => cp8 a x

/-! ## INC and DEC: the result and the new F, C kept (43 R217 to R220) -/

/-- `v + 1`, Z, N = 0, H from the low nibble 0xF; `c` is the C kept (R217). -/
def inc8 (v : Byte) (c : Bool) : Byte × Byte :=
  let res := v + 1
  (res, packF (res == 0) false (lowNibble v == 0xF) c)

/-- `v - 1`, Z, N = 1, H from the low nibble 0x0; `c` is the C kept (R219). -/
def dec8 (v : Byte) (c : Bool) : Byte × Byte :=
  let res := v - 1
  (res, packF (res == 0) true (lowNibble v == 0x0) c)

/-! ## 16-bit arithmetic (44 R225, R228) -/

/-- HL + rr with the new F: Z kept, N = 0, H the carry out of bit 11, C out of bit 15 (R225). -/
def addHl (a b : Word) (z : Bool) : Word × Byte :=
  (a + b, packF z false (decide (a.toNat % 0x1000 + b.toNat % 0x1000 > 0xFFF)) (decide (a.toNat + b.toNat > 0xFFFF)))

/-- SP + e with the new F: Z = N = 0, H and C from the unsigned addition of the low byte of SP and the raw byte e
(R228, R229). -/
def addSp (sp : Word) (e : Byte) : Word × Byte :=
  (sp + sext16 e, packF false false (decide (sp.toNat % 16 + lowNibble e > 0xF))
    (decide (sp.toNat % 256 + e.toNat > 0xFF)))

/-! ## Rotates and shifts: the result and the bit shifted out (45 R235 to R238, 46 R251 to R266) -/

/-- The result and the carry of an operation of the rotate/shift group on `v` with old carry `c` (46 R250). -/
def shiftResult : ShiftOp → Byte → Bool → Byte × Bool
  | .rlc, v, _ => (v.extractLsb' 0 7 ++ v.extractLsb' 7 1, v.getLsbD 7)
  | .rrc, v, _ => (v.extractLsb' 0 1 ++ v.extractLsb' 1 7, v.getLsbD 0)
  | .rl, v, c => (v.extractLsb' 0 7 ++ BitVec.ofBool c, v.getLsbD 7)
  | .rr, v, c => (BitVec.ofBool c ++ v.extractLsb' 1 7, v.getLsbD 0)
  | .sla, v, _ => (v.extractLsb' 0 7 ++ 0#1, v.getLsbD 7)
  | .sra, v, _ => (v.extractLsb' 7 1 ++ v.extractLsb' 1 7, v.getLsbD 0)
  | .swap, v, _ => (v.extractLsb' 0 4 ++ v.extractLsb' 4 4, false)
  | .srl, v, _ => (0#1 ++ v.extractLsb' 1 7, v.getLsbD 0)

/-- The new F of a CB rotate, shift or SWAP: Z from the result, N = H = 0, C the bit shifted out (46 R251 to R266). -/
def shiftF (res : Byte) (c : Bool) : Byte := packF (res == 0) false false c

/-! ## DAA (45 R239) -/

/-- The amount DAA adds or subtracts: 0x06 and 0x60 by N, H, C and, after an addition, the value of A (R239). -/
def daaAdjust (a : Byte) (n h c : Bool) : Byte :=
  (if h || (!n && decide (lowNibble a > 0x9)) then 0x06 else 0x00)
    ||| (if c || (!n && decide (a.toNat > 0x99)) then 0x60 else 0x00)

/-- A after DAA and the new F: N kept, H = 0, C sticky (R239). -/
def daa8 (a : Byte) (n h c : Bool) : Byte × Byte :=
  let adj := daaAdjust a n h c
  let res := if n then a - adj else a + adj
  (res, packF (res == 0) n false (c || (!n && decide (a.toNat > 0x99))))

end Sys2Proof.Machine
end

