-- ==== Sys2Proof/Machine/Alu16.lean ====
section
/-! DEFINITION. The 16-bit arithmetic instructions (spec 44). -/

namespace Sys2Proof.Machine

/-- ADD HL,rr (R225). -/
def addHlPair (p : R16) (s : State) : State :=
  let r := addHl (getHl s) (getR16 p s) (flagZ s)
  internal (setF r.2 (setHl r.1 s))

/-- `rr[p] <- rr[p] + delta; Internal()`, no flag (R226, R227). -/
def stepPair (p : R16) (delta : Word) (s : State) : State :=
  internal (setR16 p (getR16 p s + delta) s)

/-- ADD SP,e (R228). -/
def addSpDisp (e : Byte) (s : State) : State :=
  let r := addSp s.sp e
  internal (internal (setF r.2 { s with sp := r.1 }))

/-- LD HL,SP+e (R229). -/
def ldHlSpDisp (e : Byte) (s : State) : State :=
  let r := addSp s.sp e
  internal (setF r.2 (setHl r.1 s))

/-! ## One meaning per row of the table -/

/-- `INC BC` (R226). -/
def execIncBc (s : State) : Out := .next (stepPair .bc 1 s)

/-- `ADD HL,BC` (R225). -/
def execAddHlBc (s : State) : Out := .next (addHlPair .bc s)

/-- `DEC BC` (R227). -/
def execDecBc (s : State) : Out := .next (stepPair .bc (-1) s)

/-- `INC DE` (R226). -/
def execIncDe (s : State) : Out := .next (stepPair .de 1 s)

/-- `ADD HL,DE` (R225). -/
def execAddHlDe (s : State) : Out := .next (addHlPair .de s)

/-- `DEC DE` (R227). -/
def execDecDe (s : State) : Out := .next (stepPair .de (-1) s)

/-- `INC HL` (R226). -/
def execIncHl (s : State) : Out := .next (stepPair .hl 1 s)

/-- `ADD HL,HL` (R225). -/
def execAddHlHl (s : State) : Out := .next (addHlPair .hl s)

/-- `DEC HL` (R227). -/
def execDecHl (s : State) : Out := .next (stepPair .hl (-1) s)

/-- `INC SP` (R226). -/
def execIncSp (s : State) : Out := .next (stepPair .sp 1 s)

/-- `ADD HL,SP` (R225). -/
def execAddHlSp (s : State) : Out := .next (addHlPair .sp s)

/-- `DEC SP` (R227). -/
def execDecSp (s : State) : Out := .next (stepPair .sp (-1) s)

/-- `ADD SP,e` (R228). -/
def execAddSpRel (e : Byte) (s : State) : Out := .next (addSpDisp e s)

/-- `LD HL,SP+e` (R229). -/
def execLdHlSpRel (e : Byte) (s : State) : Out := .next (ldHlSpDisp e s)

end Sys2Proof.Machine
end

