-- ==== Sys2Proof/Machine/Alu8.lean ====
section
/-! DEFINITION. The 8-bit arithmetic and logic instructions (spec 43). -/

namespace Sys2Proof.Machine

/-- An 8-bit operation on A and operand `x`: A and all four flags (R193 to R216). -/
def aluOn (op : AluOp) (x : Byte) (s : State) : State :=
  let r := aluResult op s.regs.a x (flagC s)
  setF r.2 (setR8 .a r.1 s)

/-- The register forms. -/
def aluReg (op : AluOp) (src : R8) (s : State) : State := aluOn op (getR8 src s) s

/-- The `(HL)` forms: `x <- MemRead(HL, 1)`. -/
def aluHl (op : AluOp) (s : State) : State :=
  let r := memRead (getHl s) s
  aluOn op r.1 r.2

/-- INC r (R217). -/
def incReg (dst : R8) (s : State) : State :=
  let r := inc8 (getR8 dst s) (flagC s)
  setF r.2 (setR8 dst r.1 s)

/-- DEC r (R219). -/
def decReg (dst : R8) (s : State) : State :=
  let r := dec8 (getR8 dst s) (flagC s)
  setF r.2 (setR8 dst r.1 s)

/-- INC (HL): a read, then a write at the same address (R218). -/
def incHlByte (s : State) : State :=
  let v := memRead (getHl s) s
  let r := inc8 v.1 (flagC s)
  setF r.2 (memWrite (getHl s) r.1 v.2)

/-- DEC (HL): a read, then a write at the same address (R220). -/
def decHlByte (s : State) : State :=
  let v := memRead (getHl s) s
  let r := dec8 v.1 (flagC s)
  setF r.2 (memWrite (getHl s) r.1 v.2)

/-! ## One meaning per row of the table -/

/-- `INC B` (R217). -/
def execIncB (s : State) : Out := .next (incReg .b s)

/-- `DEC B` (R219). -/
def execDecB (s : State) : Out := .next (decReg .b s)

/-- `INC C` (R217). -/
def execIncC (s : State) : Out := .next (incReg .c s)

/-- `DEC C` (R219). -/
def execDecC (s : State) : Out := .next (decReg .c s)

/-- `INC D` (R217). -/
def execIncD (s : State) : Out := .next (incReg .d s)

/-- `DEC D` (R219). -/
def execDecD (s : State) : Out := .next (decReg .d s)

/-- `INC E` (R217). -/
def execIncE (s : State) : Out := .next (incReg .e s)

/-- `DEC E` (R219). -/
def execDecE (s : State) : Out := .next (decReg .e s)

/-- `INC H` (R217). -/
def execIncH (s : State) : Out := .next (incReg .h s)

/-- `DEC H` (R219). -/
def execDecH (s : State) : Out := .next (decReg .h s)

/-- `INC L` (R217). -/
def execIncL (s : State) : Out := .next (incReg .l s)

/-- `DEC L` (R219). -/
def execDecL (s : State) : Out := .next (decReg .l s)

/-- `INC (HL)` (R218). -/
def execIncAtHl (s : State) : Out := .next (incHlByte s)

/-- `DEC (HL)` (R220). -/
def execDecAtHl (s : State) : Out := .next (decHlByte s)

/-- `INC A` (R217). -/
def execIncA (s : State) : Out := .next (incReg .a s)

/-- `DEC A` (R219). -/
def execDecA (s : State) : Out := .next (decReg .a s)

/-- `ADD A,B` (R193). -/
def execAddAB (s : State) : Out := .next (aluReg .add .b s)

/-- `ADD A,C` (R193). -/
def execAddAC (s : State) : Out := .next (aluReg .add .c s)

/-- `ADD A,D` (R193). -/
def execAddAD (s : State) : Out := .next (aluReg .add .d s)

/-- `ADD A,E` (R193). -/
def execAddAE (s : State) : Out := .next (aluReg .add .e s)

/-- `ADD A,H` (R193). -/
def execAddAH (s : State) : Out := .next (aluReg .add .h s)

/-- `ADD A,L` (R193). -/
def execAddAL (s : State) : Out := .next (aluReg .add .l s)

/-- `ADD A,(HL)` (R194). -/
def execAddAAtHl (s : State) : Out := .next (aluHl .add s)

/-- `ADD A,A` (R193). -/
def execAddAA (s : State) : Out := .next (aluReg .add .a s)

/-- `ADC A,B` (R196). -/
def execAdcAB (s : State) : Out := .next (aluReg .adc .b s)

/-- `ADC A,C` (R196). -/
def execAdcAC (s : State) : Out := .next (aluReg .adc .c s)

/-- `ADC A,D` (R196). -/
def execAdcAD (s : State) : Out := .next (aluReg .adc .d s)

/-- `ADC A,E` (R196). -/
def execAdcAE (s : State) : Out := .next (aluReg .adc .e s)

/-- `ADC A,H` (R196). -/
def execAdcAH (s : State) : Out := .next (aluReg .adc .h s)

/-- `ADC A,L` (R196). -/
def execAdcAL (s : State) : Out := .next (aluReg .adc .l s)

/-- `ADC A,(HL)` (R197). -/
def execAdcAAtHl (s : State) : Out := .next (aluHl .adc s)

/-- `ADC A,A` (R196). -/
def execAdcAA (s : State) : Out := .next (aluReg .adc .a s)

/-- `SUB B` (R199). -/
def execSubB (s : State) : Out := .next (aluReg .sub .b s)

/-- `SUB C` (R199). -/
def execSubC (s : State) : Out := .next (aluReg .sub .c s)

/-- `SUB D` (R199). -/
def execSubD (s : State) : Out := .next (aluReg .sub .d s)

/-- `SUB E` (R199). -/
def execSubE (s : State) : Out := .next (aluReg .sub .e s)

/-- `SUB H` (R199). -/
def execSubH (s : State) : Out := .next (aluReg .sub .h s)

/-- `SUB L` (R199). -/
def execSubL (s : State) : Out := .next (aluReg .sub .l s)

/-- `SUB (HL)` (R200). -/
def execSubAtHl (s : State) : Out := .next (aluHl .sub s)

/-- `SUB A` (R199). -/
def execSubA (s : State) : Out := .next (aluReg .sub .a s)

/-- `SBC A,B` (R202). -/
def execSbcAB (s : State) : Out := .next (aluReg .sbc .b s)

/-- `SBC A,C` (R202). -/
def execSbcAC (s : State) : Out := .next (aluReg .sbc .c s)

/-- `SBC A,D` (R202). -/
def execSbcAD (s : State) : Out := .next (aluReg .sbc .d s)

/-- `SBC A,E` (R202). -/
def execSbcAE (s : State) : Out := .next (aluReg .sbc .e s)

/-- `SBC A,H` (R202). -/
def execSbcAH (s : State) : Out := .next (aluReg .sbc .h s)

/-- `SBC A,L` (R202). -/
def execSbcAL (s : State) : Out := .next (aluReg .sbc .l s)

/-- `SBC A,(HL)` (R203). -/
def execSbcAAtHl (s : State) : Out := .next (aluHl .sbc s)

/-- `SBC A,A` (R202). -/
def execSbcAA (s : State) : Out := .next (aluReg .sbc .a s)

/-- `AND B` (R205). -/
def execAndB (s : State) : Out := .next (aluReg .and .b s)

/-- `AND C` (R205). -/
def execAndC (s : State) : Out := .next (aluReg .and .c s)

/-- `AND D` (R205). -/
def execAndD (s : State) : Out := .next (aluReg .and .d s)

/-- `AND E` (R205). -/
def execAndE (s : State) : Out := .next (aluReg .and .e s)

/-- `AND H` (R205). -/
def execAndH (s : State) : Out := .next (aluReg .and .h s)

/-- `AND L` (R205). -/
def execAndL (s : State) : Out := .next (aluReg .and .l s)

/-- `AND (HL)` (R206). -/
def execAndAtHl (s : State) : Out := .next (aluHl .and s)

/-- `AND A` (R205). -/
def execAndA (s : State) : Out := .next (aluReg .and .a s)

/-- `XOR B` (R208). -/
def execXorB (s : State) : Out := .next (aluReg .xor .b s)

/-- `XOR C` (R208). -/
def execXorC (s : State) : Out := .next (aluReg .xor .c s)

/-- `XOR D` (R208). -/
def execXorD (s : State) : Out := .next (aluReg .xor .d s)

/-- `XOR E` (R208). -/
def execXorE (s : State) : Out := .next (aluReg .xor .e s)

/-- `XOR H` (R208). -/
def execXorH (s : State) : Out := .next (aluReg .xor .h s)

/-- `XOR L` (R208). -/
def execXorL (s : State) : Out := .next (aluReg .xor .l s)

/-- `XOR (HL)` (R209). -/
def execXorAtHl (s : State) : Out := .next (aluHl .xor s)

/-- `XOR A` (R208). -/
def execXorA (s : State) : Out := .next (aluReg .xor .a s)

/-- `OR B` (R211). -/
def execOrB (s : State) : Out := .next (aluReg .or .b s)

/-- `OR C` (R211). -/
def execOrC (s : State) : Out := .next (aluReg .or .c s)

/-- `OR D` (R211). -/
def execOrD (s : State) : Out := .next (aluReg .or .d s)

/-- `OR E` (R211). -/
def execOrE (s : State) : Out := .next (aluReg .or .e s)

/-- `OR H` (R211). -/
def execOrH (s : State) : Out := .next (aluReg .or .h s)

/-- `OR L` (R211). -/
def execOrL (s : State) : Out := .next (aluReg .or .l s)

/-- `OR (HL)` (R212). -/
def execOrAtHl (s : State) : Out := .next (aluHl .or s)

/-- `OR A` (R211). -/
def execOrA (s : State) : Out := .next (aluReg .or .a s)

/-- `CP B` (R214). -/
def execCpB (s : State) : Out := .next (aluReg .cp .b s)

/-- `CP C` (R214). -/
def execCpC (s : State) : Out := .next (aluReg .cp .c s)

/-- `CP D` (R214). -/
def execCpD (s : State) : Out := .next (aluReg .cp .d s)

/-- `CP E` (R214). -/
def execCpE (s : State) : Out := .next (aluReg .cp .e s)

/-- `CP H` (R214). -/
def execCpH (s : State) : Out := .next (aluReg .cp .h s)

/-- `CP L` (R214). -/
def execCpL (s : State) : Out := .next (aluReg .cp .l s)

/-- `CP (HL)` (R215). -/
def execCpAtHl (s : State) : Out := .next (aluHl .cp s)

/-- `CP A` (R214). -/
def execCpA (s : State) : Out := .next (aluReg .cp .a s)

/-- `ADD A,n` (R195). -/
def execAddAImm8 (n : Byte) (s : State) : Out := .next (aluOn .add n s)

/-- `ADC A,n` (R198). -/
def execAdcAImm8 (n : Byte) (s : State) : Out := .next (aluOn .adc n s)

/-- `SUB n` (R201). -/
def execSubImm8 (n : Byte) (s : State) : Out := .next (aluOn .sub n s)

/-- `SBC A,n` (R204). -/
def execSbcAImm8 (n : Byte) (s : State) : Out := .next (aluOn .sbc n s)

/-- `AND n` (R207). -/
def execAndImm8 (n : Byte) (s : State) : Out := .next (aluOn .and n s)

/-- `XOR n` (R210). -/
def execXorImm8 (n : Byte) (s : State) : Out := .next (aluOn .xor n s)

/-- `OR n` (R213). -/
def execOrImm8 (n : Byte) (s : State) : Out := .next (aluOn .or n s)

/-- `CP n` (R216). -/
def execCpImm8 (n : Byte) (s : State) : Out := .next (aluOn .cp n s)

end Sys2Proof.Machine
end

