-- ==== Sys2Proof/Machine/CbBit.lean ====
section
/-! DEFINITION. BIT (spec 46 R267, R268): Z from the complement of the bit, N = 0, H = 1, C kept. -/

namespace Sys2Proof.Machine

/-- The flags of BIT b on byte `v`. -/
def testBit (b : Nat) (v : Byte) (s : State) : State :=
  setF (packF (!v.getLsbD b) false true (flagC s)) s

/-- BIT b,r: the register is not written (R267). -/
def bitReg (b : Fin 8) (r : R8) (s : State) : State := testBit b.val (getR8 r s) s

/-- BIT b,(HL): a read, no write (R268). -/
def bitHl (b : Fin 8) (s : State) : State :=
  let v := memRead (getHl s) s
  testBit b.val v.1 v.2

/-! ## One meaning per row of the table -/

/-- `BIT 0,B` (R267). -/
def execBit0B (s : State) : Out := .next (bitReg 0 .b s)

/-- `BIT 0,C` (R267). -/
def execBit0C (s : State) : Out := .next (bitReg 0 .c s)

/-- `BIT 0,D` (R267). -/
def execBit0D (s : State) : Out := .next (bitReg 0 .d s)

/-- `BIT 0,E` (R267). -/
def execBit0E (s : State) : Out := .next (bitReg 0 .e s)

/-- `BIT 0,H` (R267). -/
def execBit0H (s : State) : Out := .next (bitReg 0 .h s)

/-- `BIT 0,L` (R267). -/
def execBit0L (s : State) : Out := .next (bitReg 0 .l s)

/-- `BIT 0,(HL)` (R268). -/
def execBit0AtHl (s : State) : Out := .next (bitHl 0 s)

/-- `BIT 0,A` (R267). -/
def execBit0A (s : State) : Out := .next (bitReg 0 .a s)

/-- `BIT 1,B` (R267). -/
def execBit1B (s : State) : Out := .next (bitReg 1 .b s)

/-- `BIT 1,C` (R267). -/
def execBit1C (s : State) : Out := .next (bitReg 1 .c s)

/-- `BIT 1,D` (R267). -/
def execBit1D (s : State) : Out := .next (bitReg 1 .d s)

/-- `BIT 1,E` (R267). -/
def execBit1E (s : State) : Out := .next (bitReg 1 .e s)

/-- `BIT 1,H` (R267). -/
def execBit1H (s : State) : Out := .next (bitReg 1 .h s)

/-- `BIT 1,L` (R267). -/
def execBit1L (s : State) : Out := .next (bitReg 1 .l s)

/-- `BIT 1,(HL)` (R268). -/
def execBit1AtHl (s : State) : Out := .next (bitHl 1 s)

/-- `BIT 1,A` (R267). -/
def execBit1A (s : State) : Out := .next (bitReg 1 .a s)

/-- `BIT 2,B` (R267). -/
def execBit2B (s : State) : Out := .next (bitReg 2 .b s)

/-- `BIT 2,C` (R267). -/
def execBit2C (s : State) : Out := .next (bitReg 2 .c s)

/-- `BIT 2,D` (R267). -/
def execBit2D (s : State) : Out := .next (bitReg 2 .d s)

/-- `BIT 2,E` (R267). -/
def execBit2E (s : State) : Out := .next (bitReg 2 .e s)

/-- `BIT 2,H` (R267). -/
def execBit2H (s : State) : Out := .next (bitReg 2 .h s)

/-- `BIT 2,L` (R267). -/
def execBit2L (s : State) : Out := .next (bitReg 2 .l s)

/-- `BIT 2,(HL)` (R268). -/
def execBit2AtHl (s : State) : Out := .next (bitHl 2 s)

/-- `BIT 2,A` (R267). -/
def execBit2A (s : State) : Out := .next (bitReg 2 .a s)

/-- `BIT 3,B` (R267). -/
def execBit3B (s : State) : Out := .next (bitReg 3 .b s)

/-- `BIT 3,C` (R267). -/
def execBit3C (s : State) : Out := .next (bitReg 3 .c s)

/-- `BIT 3,D` (R267). -/
def execBit3D (s : State) : Out := .next (bitReg 3 .d s)

/-- `BIT 3,E` (R267). -/
def execBit3E (s : State) : Out := .next (bitReg 3 .e s)

/-- `BIT 3,H` (R267). -/
def execBit3H (s : State) : Out := .next (bitReg 3 .h s)

/-- `BIT 3,L` (R267). -/
def execBit3L (s : State) : Out := .next (bitReg 3 .l s)

/-- `BIT 3,(HL)` (R268). -/
def execBit3AtHl (s : State) : Out := .next (bitHl 3 s)

/-- `BIT 3,A` (R267). -/
def execBit3A (s : State) : Out := .next (bitReg 3 .a s)

/-- `BIT 4,B` (R267). -/
def execBit4B (s : State) : Out := .next (bitReg 4 .b s)

/-- `BIT 4,C` (R267). -/
def execBit4C (s : State) : Out := .next (bitReg 4 .c s)

/-- `BIT 4,D` (R267). -/
def execBit4D (s : State) : Out := .next (bitReg 4 .d s)

/-- `BIT 4,E` (R267). -/
def execBit4E (s : State) : Out := .next (bitReg 4 .e s)

/-- `BIT 4,H` (R267). -/
def execBit4H (s : State) : Out := .next (bitReg 4 .h s)

/-- `BIT 4,L` (R267). -/
def execBit4L (s : State) : Out := .next (bitReg 4 .l s)

/-- `BIT 4,(HL)` (R268). -/
def execBit4AtHl (s : State) : Out := .next (bitHl 4 s)

/-- `BIT 4,A` (R267). -/
def execBit4A (s : State) : Out := .next (bitReg 4 .a s)

/-- `BIT 5,B` (R267). -/
def execBit5B (s : State) : Out := .next (bitReg 5 .b s)

/-- `BIT 5,C` (R267). -/
def execBit5C (s : State) : Out := .next (bitReg 5 .c s)

/-- `BIT 5,D` (R267). -/
def execBit5D (s : State) : Out := .next (bitReg 5 .d s)

/-- `BIT 5,E` (R267). -/
def execBit5E (s : State) : Out := .next (bitReg 5 .e s)

/-- `BIT 5,H` (R267). -/
def execBit5H (s : State) : Out := .next (bitReg 5 .h s)

/-- `BIT 5,L` (R267). -/
def execBit5L (s : State) : Out := .next (bitReg 5 .l s)

/-- `BIT 5,(HL)` (R268). -/
def execBit5AtHl (s : State) : Out := .next (bitHl 5 s)

/-- `BIT 5,A` (R267). -/
def execBit5A (s : State) : Out := .next (bitReg 5 .a s)

/-- `BIT 6,B` (R267). -/
def execBit6B (s : State) : Out := .next (bitReg 6 .b s)

/-- `BIT 6,C` (R267). -/
def execBit6C (s : State) : Out := .next (bitReg 6 .c s)

/-- `BIT 6,D` (R267). -/
def execBit6D (s : State) : Out := .next (bitReg 6 .d s)

/-- `BIT 6,E` (R267). -/
def execBit6E (s : State) : Out := .next (bitReg 6 .e s)

/-- `BIT 6,H` (R267). -/
def execBit6H (s : State) : Out := .next (bitReg 6 .h s)

/-- `BIT 6,L` (R267). -/
def execBit6L (s : State) : Out := .next (bitReg 6 .l s)

/-- `BIT 6,(HL)` (R268). -/
def execBit6AtHl (s : State) : Out := .next (bitHl 6 s)

/-- `BIT 6,A` (R267). -/
def execBit6A (s : State) : Out := .next (bitReg 6 .a s)

/-- `BIT 7,B` (R267). -/
def execBit7B (s : State) : Out := .next (bitReg 7 .b s)

/-- `BIT 7,C` (R267). -/
def execBit7C (s : State) : Out := .next (bitReg 7 .c s)

/-- `BIT 7,D` (R267). -/
def execBit7D (s : State) : Out := .next (bitReg 7 .d s)

/-- `BIT 7,E` (R267). -/
def execBit7E (s : State) : Out := .next (bitReg 7 .e s)

/-- `BIT 7,H` (R267). -/
def execBit7H (s : State) : Out := .next (bitReg 7 .h s)

/-- `BIT 7,L` (R267). -/
def execBit7L (s : State) : Out := .next (bitReg 7 .l s)

/-- `BIT 7,(HL)` (R268). -/
def execBit7AtHl (s : State) : Out := .next (bitHl 7 s)

/-- `BIT 7,A` (R267). -/
def execBit7A (s : State) : Out := .next (bitReg 7 .a s)

end Sys2Proof.Machine
end

