-- ==== Sys2Proof/Machine/CbRes.lean ====
section
/-! DEFINITION. RES (spec 46 R269, R270): one bit cleared, no flag. -/

namespace Sys2Proof.Machine

/-- `v & ~(1 << b)`. -/
def clearBit (b : Fin 8) (v : Byte) : Byte := v &&& ~~~(1#8 <<< b.val)

/-- RES b,r (R269). -/
def resReg (b : Fin 8) (r : R8) (s : State) : State := setR8 r (clearBit b (getR8 r s)) s

/-- RES b,(HL): a read, then always a write (R270). -/
def resHl (b : Fin 8) (s : State) : State :=
  let v := memRead (getHl s) s
  memWrite (getHl s) (clearBit b v.1) v.2

/-! ## One meaning per row of the table -/

/-- `RES 0,B` (R269). -/
def execRes0B (s : State) : Out := .next (resReg 0 .b s)

/-- `RES 0,C` (R269). -/
def execRes0C (s : State) : Out := .next (resReg 0 .c s)

/-- `RES 0,D` (R269). -/
def execRes0D (s : State) : Out := .next (resReg 0 .d s)

/-- `RES 0,E` (R269). -/
def execRes0E (s : State) : Out := .next (resReg 0 .e s)

/-- `RES 0,H` (R269). -/
def execRes0H (s : State) : Out := .next (resReg 0 .h s)

/-- `RES 0,L` (R269). -/
def execRes0L (s : State) : Out := .next (resReg 0 .l s)

/-- `RES 0,(HL)` (R270). -/
def execRes0AtHl (s : State) : Out := .next (resHl 0 s)

/-- `RES 0,A` (R269). -/
def execRes0A (s : State) : Out := .next (resReg 0 .a s)

/-- `RES 1,B` (R269). -/
def execRes1B (s : State) : Out := .next (resReg 1 .b s)

/-- `RES 1,C` (R269). -/
def execRes1C (s : State) : Out := .next (resReg 1 .c s)

/-- `RES 1,D` (R269). -/
def execRes1D (s : State) : Out := .next (resReg 1 .d s)

/-- `RES 1,E` (R269). -/
def execRes1E (s : State) : Out := .next (resReg 1 .e s)

/-- `RES 1,H` (R269). -/
def execRes1H (s : State) : Out := .next (resReg 1 .h s)

/-- `RES 1,L` (R269). -/
def execRes1L (s : State) : Out := .next (resReg 1 .l s)

/-- `RES 1,(HL)` (R270). -/
def execRes1AtHl (s : State) : Out := .next (resHl 1 s)

/-- `RES 1,A` (R269). -/
def execRes1A (s : State) : Out := .next (resReg 1 .a s)

/-- `RES 2,B` (R269). -/
def execRes2B (s : State) : Out := .next (resReg 2 .b s)

/-- `RES 2,C` (R269). -/
def execRes2C (s : State) : Out := .next (resReg 2 .c s)

/-- `RES 2,D` (R269). -/
def execRes2D (s : State) : Out := .next (resReg 2 .d s)

/-- `RES 2,E` (R269). -/
def execRes2E (s : State) : Out := .next (resReg 2 .e s)

/-- `RES 2,H` (R269). -/
def execRes2H (s : State) : Out := .next (resReg 2 .h s)

/-- `RES 2,L` (R269). -/
def execRes2L (s : State) : Out := .next (resReg 2 .l s)

/-- `RES 2,(HL)` (R270). -/
def execRes2AtHl (s : State) : Out := .next (resHl 2 s)

/-- `RES 2,A` (R269). -/
def execRes2A (s : State) : Out := .next (resReg 2 .a s)

/-- `RES 3,B` (R269). -/
def execRes3B (s : State) : Out := .next (resReg 3 .b s)

/-- `RES 3,C` (R269). -/
def execRes3C (s : State) : Out := .next (resReg 3 .c s)

/-- `RES 3,D` (R269). -/
def execRes3D (s : State) : Out := .next (resReg 3 .d s)

/-- `RES 3,E` (R269). -/
def execRes3E (s : State) : Out := .next (resReg 3 .e s)

/-- `RES 3,H` (R269). -/
def execRes3H (s : State) : Out := .next (resReg 3 .h s)

/-- `RES 3,L` (R269). -/
def execRes3L (s : State) : Out := .next (resReg 3 .l s)

/-- `RES 3,(HL)` (R270). -/
def execRes3AtHl (s : State) : Out := .next (resHl 3 s)

/-- `RES 3,A` (R269). -/
def execRes3A (s : State) : Out := .next (resReg 3 .a s)

/-- `RES 4,B` (R269). -/
def execRes4B (s : State) : Out := .next (resReg 4 .b s)

/-- `RES 4,C` (R269). -/
def execRes4C (s : State) : Out := .next (resReg 4 .c s)

/-- `RES 4,D` (R269). -/
def execRes4D (s : State) : Out := .next (resReg 4 .d s)

/-- `RES 4,E` (R269). -/
def execRes4E (s : State) : Out := .next (resReg 4 .e s)

/-- `RES 4,H` (R269). -/
def execRes4H (s : State) : Out := .next (resReg 4 .h s)

/-- `RES 4,L` (R269). -/
def execRes4L (s : State) : Out := .next (resReg 4 .l s)

/-- `RES 4,(HL)` (R270). -/
def execRes4AtHl (s : State) : Out := .next (resHl 4 s)

/-- `RES 4,A` (R269). -/
def execRes4A (s : State) : Out := .next (resReg 4 .a s)

/-- `RES 5,B` (R269). -/
def execRes5B (s : State) : Out := .next (resReg 5 .b s)

/-- `RES 5,C` (R269). -/
def execRes5C (s : State) : Out := .next (resReg 5 .c s)

/-- `RES 5,D` (R269). -/
def execRes5D (s : State) : Out := .next (resReg 5 .d s)

/-- `RES 5,E` (R269). -/
def execRes5E (s : State) : Out := .next (resReg 5 .e s)

/-- `RES 5,H` (R269). -/
def execRes5H (s : State) : Out := .next (resReg 5 .h s)

/-- `RES 5,L` (R269). -/
def execRes5L (s : State) : Out := .next (resReg 5 .l s)

/-- `RES 5,(HL)` (R270). -/
def execRes5AtHl (s : State) : Out := .next (resHl 5 s)

/-- `RES 5,A` (R269). -/
def execRes5A (s : State) : Out := .next (resReg 5 .a s)

/-- `RES 6,B` (R269). -/
def execRes6B (s : State) : Out := .next (resReg 6 .b s)

/-- `RES 6,C` (R269). -/
def execRes6C (s : State) : Out := .next (resReg 6 .c s)

/-- `RES 6,D` (R269). -/
def execRes6D (s : State) : Out := .next (resReg 6 .d s)

/-- `RES 6,E` (R269). -/
def execRes6E (s : State) : Out := .next (resReg 6 .e s)

/-- `RES 6,H` (R269). -/
def execRes6H (s : State) : Out := .next (resReg 6 .h s)

/-- `RES 6,L` (R269). -/
def execRes6L (s : State) : Out := .next (resReg 6 .l s)

/-- `RES 6,(HL)` (R270). -/
def execRes6AtHl (s : State) : Out := .next (resHl 6 s)

/-- `RES 6,A` (R269). -/
def execRes6A (s : State) : Out := .next (resReg 6 .a s)

/-- `RES 7,B` (R269). -/
def execRes7B (s : State) : Out := .next (resReg 7 .b s)

/-- `RES 7,C` (R269). -/
def execRes7C (s : State) : Out := .next (resReg 7 .c s)

/-- `RES 7,D` (R269). -/
def execRes7D (s : State) : Out := .next (resReg 7 .d s)

/-- `RES 7,E` (R269). -/
def execRes7E (s : State) : Out := .next (resReg 7 .e s)

/-- `RES 7,H` (R269). -/
def execRes7H (s : State) : Out := .next (resReg 7 .h s)

/-- `RES 7,L` (R269). -/
def execRes7L (s : State) : Out := .next (resReg 7 .l s)

/-- `RES 7,(HL)` (R270). -/
def execRes7AtHl (s : State) : Out := .next (resHl 7 s)

/-- `RES 7,A` (R269). -/
def execRes7A (s : State) : Out := .next (resReg 7 .a s)

end Sys2Proof.Machine
end

