-- ==== Sys2Proof/Machine/CbSet.lean ====
section
/-! DEFINITION. SET (spec 46 R271, R272): one bit set, no flag. -/

namespace Sys2Proof.Machine

/-- `v | (1 << b)`. -/
def raiseBit (b : Fin 8) (v : Byte) : Byte := v ||| (1#8 <<< b.val)

/-- SET b,r (R271). -/
def setReg (b : Fin 8) (r : R8) (s : State) : State := setR8 r (raiseBit b (getR8 r s)) s

/-- SET b,(HL): a read, then always a write (R272). -/
def setHlBit (b : Fin 8) (s : State) : State :=
  let v := memRead (getHl s) s
  memWrite (getHl s) (raiseBit b v.1) v.2

/-! ## One meaning per row of the table -/

/-- `SET 0,B` (R271). -/
def execSet0B (s : State) : Out := .next (setReg 0 .b s)

/-- `SET 0,C` (R271). -/
def execSet0C (s : State) : Out := .next (setReg 0 .c s)

/-- `SET 0,D` (R271). -/
def execSet0D (s : State) : Out := .next (setReg 0 .d s)

/-- `SET 0,E` (R271). -/
def execSet0E (s : State) : Out := .next (setReg 0 .e s)

/-- `SET 0,H` (R271). -/
def execSet0H (s : State) : Out := .next (setReg 0 .h s)

/-- `SET 0,L` (R271). -/
def execSet0L (s : State) : Out := .next (setReg 0 .l s)

/-- `SET 0,(HL)` (R272). -/
def execSet0AtHl (s : State) : Out := .next (setHlBit 0 s)

/-- `SET 0,A` (R271). -/
def execSet0A (s : State) : Out := .next (setReg 0 .a s)

/-- `SET 1,B` (R271). -/
def execSet1B (s : State) : Out := .next (setReg 1 .b s)

/-- `SET 1,C` (R271). -/
def execSet1C (s : State) : Out := .next (setReg 1 .c s)

/-- `SET 1,D` (R271). -/
def execSet1D (s : State) : Out := .next (setReg 1 .d s)

/-- `SET 1,E` (R271). -/
def execSet1E (s : State) : Out := .next (setReg 1 .e s)

/-- `SET 1,H` (R271). -/
def execSet1H (s : State) : Out := .next (setReg 1 .h s)

/-- `SET 1,L` (R271). -/
def execSet1L (s : State) : Out := .next (setReg 1 .l s)

/-- `SET 1,(HL)` (R272). -/
def execSet1AtHl (s : State) : Out := .next (setHlBit 1 s)

/-- `SET 1,A` (R271). -/
def execSet1A (s : State) : Out := .next (setReg 1 .a s)

/-- `SET 2,B` (R271). -/
def execSet2B (s : State) : Out := .next (setReg 2 .b s)

/-- `SET 2,C` (R271). -/
def execSet2C (s : State) : Out := .next (setReg 2 .c s)

/-- `SET 2,D` (R271). -/
def execSet2D (s : State) : Out := .next (setReg 2 .d s)

/-- `SET 2,E` (R271). -/
def execSet2E (s : State) : Out := .next (setReg 2 .e s)

/-- `SET 2,H` (R271). -/
def execSet2H (s : State) : Out := .next (setReg 2 .h s)

/-- `SET 2,L` (R271). -/
def execSet2L (s : State) : Out := .next (setReg 2 .l s)

/-- `SET 2,(HL)` (R272). -/
def execSet2AtHl (s : State) : Out := .next (setHlBit 2 s)

/-- `SET 2,A` (R271). -/
def execSet2A (s : State) : Out := .next (setReg 2 .a s)

/-- `SET 3,B` (R271). -/
def execSet3B (s : State) : Out := .next (setReg 3 .b s)

/-- `SET 3,C` (R271). -/
def execSet3C (s : State) : Out := .next (setReg 3 .c s)

/-- `SET 3,D` (R271). -/
def execSet3D (s : State) : Out := .next (setReg 3 .d s)

/-- `SET 3,E` (R271). -/
def execSet3E (s : State) : Out := .next (setReg 3 .e s)

/-- `SET 3,H` (R271). -/
def execSet3H (s : State) : Out := .next (setReg 3 .h s)

/-- `SET 3,L` (R271). -/
def execSet3L (s : State) : Out := .next (setReg 3 .l s)

/-- `SET 3,(HL)` (R272). -/
def execSet3AtHl (s : State) : Out := .next (setHlBit 3 s)

/-- `SET 3,A` (R271). -/
def execSet3A (s : State) : Out := .next (setReg 3 .a s)

/-- `SET 4,B` (R271). -/
def execSet4B (s : State) : Out := .next (setReg 4 .b s)

/-- `SET 4,C` (R271). -/
def execSet4C (s : State) : Out := .next (setReg 4 .c s)

/-- `SET 4,D` (R271). -/
def execSet4D (s : State) : Out := .next (setReg 4 .d s)

/-- `SET 4,E` (R271). -/
def execSet4E (s : State) : Out := .next (setReg 4 .e s)

/-- `SET 4,H` (R271). -/
def execSet4H (s : State) : Out := .next (setReg 4 .h s)

/-- `SET 4,L` (R271). -/
def execSet4L (s : State) : Out := .next (setReg 4 .l s)

/-- `SET 4,(HL)` (R272). -/
def execSet4AtHl (s : State) : Out := .next (setHlBit 4 s)

/-- `SET 4,A` (R271). -/
def execSet4A (s : State) : Out := .next (setReg 4 .a s)

/-- `SET 5,B` (R271). -/
def execSet5B (s : State) : Out := .next (setReg 5 .b s)

/-- `SET 5,C` (R271). -/
def execSet5C (s : State) : Out := .next (setReg 5 .c s)

/-- `SET 5,D` (R271). -/
def execSet5D (s : State) : Out := .next (setReg 5 .d s)

/-- `SET 5,E` (R271). -/
def execSet5E (s : State) : Out := .next (setReg 5 .e s)

/-- `SET 5,H` (R271). -/
def execSet5H (s : State) : Out := .next (setReg 5 .h s)

/-- `SET 5,L` (R271). -/
def execSet5L (s : State) : Out := .next (setReg 5 .l s)

/-- `SET 5,(HL)` (R272). -/
def execSet5AtHl (s : State) : Out := .next (setHlBit 5 s)

/-- `SET 5,A` (R271). -/
def execSet5A (s : State) : Out := .next (setReg 5 .a s)

/-- `SET 6,B` (R271). -/
def execSet6B (s : State) : Out := .next (setReg 6 .b s)

/-- `SET 6,C` (R271). -/
def execSet6C (s : State) : Out := .next (setReg 6 .c s)

/-- `SET 6,D` (R271). -/
def execSet6D (s : State) : Out := .next (setReg 6 .d s)

/-- `SET 6,E` (R271). -/
def execSet6E (s : State) : Out := .next (setReg 6 .e s)

/-- `SET 6,H` (R271). -/
def execSet6H (s : State) : Out := .next (setReg 6 .h s)

/-- `SET 6,L` (R271). -/
def execSet6L (s : State) : Out := .next (setReg 6 .l s)

/-- `SET 6,(HL)` (R272). -/
def execSet6AtHl (s : State) : Out := .next (setHlBit 6 s)

/-- `SET 6,A` (R271). -/
def execSet6A (s : State) : Out := .next (setReg 6 .a s)

/-- `SET 7,B` (R271). -/
def execSet7B (s : State) : Out := .next (setReg 7 .b s)

/-- `SET 7,C` (R271). -/
def execSet7C (s : State) : Out := .next (setReg 7 .c s)

/-- `SET 7,D` (R271). -/
def execSet7D (s : State) : Out := .next (setReg 7 .d s)

/-- `SET 7,E` (R271). -/
def execSet7E (s : State) : Out := .next (setReg 7 .e s)

/-- `SET 7,H` (R271). -/
def execSet7H (s : State) : Out := .next (setReg 7 .h s)

/-- `SET 7,L` (R271). -/
def execSet7L (s : State) : Out := .next (setReg 7 .l s)

/-- `SET 7,(HL)` (R272). -/
def execSet7AtHl (s : State) : Out := .next (setHlBit 7 s)

/-- `SET 7,A` (R271). -/
def execSet7A (s : State) : Out := .next (setReg 7 .a s)

end Sys2Proof.Machine
end

