-- ==== Sys2Proof/Machine/CbShift.lean ====
section
/-! DEFINITION. The CB rotates, shifts and SWAP (spec 46 R251 to R266). -/

namespace Sys2Proof.Machine

/-- The register forms (R250). -/
def shiftReg (op : ShiftOp) (r : R8) (s : State) : State :=
  let w := shiftResult op (getR8 r s) (flagC s)
  setF (shiftF w.1 w.2) (setR8 r w.1 s)

/-- The `(HL)` forms: a read, then always a write (R250). -/
def shiftHl (op : ShiftOp) (s : State) : State :=
  let v := memRead (getHl s) s
  let w := shiftResult op v.1 (flagC s)
  setF (shiftF w.1 w.2) (memWrite (getHl s) w.1 v.2)

/-! ## One meaning per row of the table -/

/-- `RLC B` (R251). -/
def execRlcB (s : State) : Out := .next (shiftReg .rlc .b s)

/-- `RLC C` (R251). -/
def execRlcC (s : State) : Out := .next (shiftReg .rlc .c s)

/-- `RLC D` (R251). -/
def execRlcD (s : State) : Out := .next (shiftReg .rlc .d s)

/-- `RLC E` (R251). -/
def execRlcE (s : State) : Out := .next (shiftReg .rlc .e s)

/-- `RLC H` (R251). -/
def execRlcH (s : State) : Out := .next (shiftReg .rlc .h s)

/-- `RLC L` (R251). -/
def execRlcL (s : State) : Out := .next (shiftReg .rlc .l s)

/-- `RLC (HL)` (R252). -/
def execRlcAtHl (s : State) : Out := .next (shiftHl .rlc s)

/-- `RLC A` (R251). -/
def execRlcA (s : State) : Out := .next (shiftReg .rlc .a s)

/-- `RRC B` (R253). -/
def execRrcB (s : State) : Out := .next (shiftReg .rrc .b s)

/-- `RRC C` (R253). -/
def execRrcC (s : State) : Out := .next (shiftReg .rrc .c s)

/-- `RRC D` (R253). -/
def execRrcD (s : State) : Out := .next (shiftReg .rrc .d s)

/-- `RRC E` (R253). -/
def execRrcE (s : State) : Out := .next (shiftReg .rrc .e s)

/-- `RRC H` (R253). -/
def execRrcH (s : State) : Out := .next (shiftReg .rrc .h s)

/-- `RRC L` (R253). -/
def execRrcL (s : State) : Out := .next (shiftReg .rrc .l s)

/-- `RRC (HL)` (R254). -/
def execRrcAtHl (s : State) : Out := .next (shiftHl .rrc s)

/-- `RRC A` (R253). -/
def execRrcA (s : State) : Out := .next (shiftReg .rrc .a s)

/-- `RL B` (R255). -/
def execRlB (s : State) : Out := .next (shiftReg .rl .b s)

/-- `RL C` (R255). -/
def execRlC (s : State) : Out := .next (shiftReg .rl .c s)

/-- `RL D` (R255). -/
def execRlD (s : State) : Out := .next (shiftReg .rl .d s)

/-- `RL E` (R255). -/
def execRlE (s : State) : Out := .next (shiftReg .rl .e s)

/-- `RL H` (R255). -/
def execRlH (s : State) : Out := .next (shiftReg .rl .h s)

/-- `RL L` (R255). -/
def execRlL (s : State) : Out := .next (shiftReg .rl .l s)

/-- `RL (HL)` (R256). -/
def execRlAtHl (s : State) : Out := .next (shiftHl .rl s)

/-- `RL A` (R255). -/
def execRlA (s : State) : Out := .next (shiftReg .rl .a s)

/-- `RR B` (R257). -/
def execRrB (s : State) : Out := .next (shiftReg .rr .b s)

/-- `RR C` (R257). -/
def execRrC (s : State) : Out := .next (shiftReg .rr .c s)

/-- `RR D` (R257). -/
def execRrD (s : State) : Out := .next (shiftReg .rr .d s)

/-- `RR E` (R257). -/
def execRrE (s : State) : Out := .next (shiftReg .rr .e s)

/-- `RR H` (R257). -/
def execRrH (s : State) : Out := .next (shiftReg .rr .h s)

/-- `RR L` (R257). -/
def execRrL (s : State) : Out := .next (shiftReg .rr .l s)

/-- `RR (HL)` (R258). -/
def execRrAtHl (s : State) : Out := .next (shiftHl .rr s)

/-- `RR A` (R257). -/
def execRrA (s : State) : Out := .next (shiftReg .rr .a s)

/-- `SLA B` (R259). -/
def execSlaB (s : State) : Out := .next (shiftReg .sla .b s)

/-- `SLA C` (R259). -/
def execSlaC (s : State) : Out := .next (shiftReg .sla .c s)

/-- `SLA D` (R259). -/
def execSlaD (s : State) : Out := .next (shiftReg .sla .d s)

/-- `SLA E` (R259). -/
def execSlaE (s : State) : Out := .next (shiftReg .sla .e s)

/-- `SLA H` (R259). -/
def execSlaH (s : State) : Out := .next (shiftReg .sla .h s)

/-- `SLA L` (R259). -/
def execSlaL (s : State) : Out := .next (shiftReg .sla .l s)

/-- `SLA (HL)` (R260). -/
def execSlaAtHl (s : State) : Out := .next (shiftHl .sla s)

/-- `SLA A` (R259). -/
def execSlaA (s : State) : Out := .next (shiftReg .sla .a s)

/-- `SRA B` (R261). -/
def execSraB (s : State) : Out := .next (shiftReg .sra .b s)

/-- `SRA C` (R261). -/
def execSraC (s : State) : Out := .next (shiftReg .sra .c s)

/-- `SRA D` (R261). -/
def execSraD (s : State) : Out := .next (shiftReg .sra .d s)

/-- `SRA E` (R261). -/
def execSraE (s : State) : Out := .next (shiftReg .sra .e s)

/-- `SRA H` (R261). -/
def execSraH (s : State) : Out := .next (shiftReg .sra .h s)

/-- `SRA L` (R261). -/
def execSraL (s : State) : Out := .next (shiftReg .sra .l s)

/-- `SRA (HL)` (R262). -/
def execSraAtHl (s : State) : Out := .next (shiftHl .sra s)

/-- `SRA A` (R261). -/
def execSraA (s : State) : Out := .next (shiftReg .sra .a s)

/-- `SWAP B` (R263). -/
def execSwapB (s : State) : Out := .next (shiftReg .swap .b s)

/-- `SWAP C` (R263). -/
def execSwapC (s : State) : Out := .next (shiftReg .swap .c s)

/-- `SWAP D` (R263). -/
def execSwapD (s : State) : Out := .next (shiftReg .swap .d s)

/-- `SWAP E` (R263). -/
def execSwapE (s : State) : Out := .next (shiftReg .swap .e s)

/-- `SWAP H` (R263). -/
def execSwapH (s : State) : Out := .next (shiftReg .swap .h s)

/-- `SWAP L` (R263). -/
def execSwapL (s : State) : Out := .next (shiftReg .swap .l s)

/-- `SWAP (HL)` (R264). -/
def execSwapAtHl (s : State) : Out := .next (shiftHl .swap s)

/-- `SWAP A` (R263). -/
def execSwapA (s : State) : Out := .next (shiftReg .swap .a s)

/-- `SRL B` (R265). -/
def execSrlB (s : State) : Out := .next (shiftReg .srl .b s)

/-- `SRL C` (R265). -/
def execSrlC (s : State) : Out := .next (shiftReg .srl .c s)

/-- `SRL D` (R265). -/
def execSrlD (s : State) : Out := .next (shiftReg .srl .d s)

/-- `SRL E` (R265). -/
def execSrlE (s : State) : Out := .next (shiftReg .srl .e s)

/-- `SRL H` (R265). -/
def execSrlH (s : State) : Out := .next (shiftReg .srl .h s)

/-- `SRL L` (R265). -/
def execSrlL (s : State) : Out := .next (shiftReg .srl .l s)

/-- `SRL (HL)` (R266). -/
def execSrlAtHl (s : State) : Out := .next (shiftHl .srl s)

/-- `SRL A` (R265). -/
def execSrlA (s : State) : Out := .next (shiftReg .srl .a s)

end Sys2Proof.Machine
end

