-- ==== Sys2Proof/Machine/CbPrefix.lean ====
section
/-! DEFINITION. The row PREFIX CB (spec 30 R109): fetch a second byte and execute that CB entry, by the field formulas. -/

namespace Sys2Proof.Machine

/-- The operand of a 3-bit field: a register, or none for value 6, the memory byte at HL (30 R104). -/
def operandOfField (z : Nat) : Option R8 :=
  [some R8.b, some .c, some .d, some .e, some .h, some .l, none, some .a].getD z none

/-- The operation of the rotate/shift group that `c[5:3]` selects (30 R107). -/
def shiftOfField (y : Nat) : ShiftOp :=
  [ShiftOp.rlc, .rrc, .rl, .rr, .sla, .sra, .swap, .srl].getD y .rlc

/-- CB entry `c`: `x = c[7:6]` the group, `y = c[5:3]` the operation or bit, `z = c[2:0]` the operand (46 R250). -/
def cbEntry (c : Byte) (s : State) : State :=
  let y := Fin.ofNat 8 (c.toNat / 8)
  match c.toNat / 64, operandOfField (c.toNat % 8) with
  | 0, some r => shiftReg (shiftOfField y.val) r s
  | 0, none => shiftHl (shiftOfField y.val) s
  | 1, some r => bitReg y r s
  | 1, none => bitHl y s
  | 2, some r => resReg y r s
  | 2, none => resHl y s
  | _, some r => setReg y r s
  | _, none => setHlBit y s

/-- `c <- Fetch8()`, then CB entry `c` (30 R109). -/
def cbFetchAndRun (s : State) : State :=
  let r := fetch8 s
  cbEntry r.1 r.2

/-! ## One meaning per row of the table -/

/-- `PREFIX CB` (R109). -/
def execPrefixCb (s : State) : Out := .next (cbFetchAndRun s)

end Sys2Proof.Machine
end

