-- ==== Sys2Proof/Machine/Control.lean ====
section
/-! DEFINITION. Control flow: JP, JR, CALL, RET, RETI, RST (spec 47). No flag is written. -/

namespace Sys2Proof.Machine

/-- `PC <- target; Internal()` (R281). -/
def jumpTo (target : Word) (s : State) : State := internal { s with pc := target }

/-- JP cc,nn (R282). -/
def jumpIf (cc : Cond) (target : Word) (s : State) : State :=
  if condHolds cc s then jumpTo target s else s

/-- `PC <- PC + sext_16(e); Internal()`, PC already past the instruction (R284). -/
def jumpBy (e : Byte) (s : State) : State := jumpTo (s.pc + sext16 e) s

/-- JR cc,e (R285). -/
def jumpByIf (cc : Cond) (e : Byte) (s : State) : State :=
  if condHolds cc s then jumpBy e s else s

/-- `Internal(); Push16(PC); PC <- target` (R286, R291). -/
def callTo (target : Word) (s : State) : State :=
  let s1 := push16 s.pc (internal s)
  { s1 with pc := target }

/-- CALL cc,nn (R287). -/
def callIf (cc : Cond) (target : Word) (s : State) : State :=
  if condHolds cc s then callTo target s else s

/-- RET cc: an internal delay step for the test, then the return if taken (R289). -/
def returnIf (cc : Cond) (s : State) : State :=
  let s1 := internal s
  if condHolds cc s then returnFromCall s1 else s1

/-! ## One meaning per row of the table -/

/-- `JR e` (R284). -/
def execJrRel (e : Byte) (s : State) : Out := .next (jumpBy e s)

/-- `JR NZ,e` (R285). -/
def execJrNZRel (e : Byte) (s : State) : Out := .next (jumpByIf .nz e s)

/-- `JR Z,e` (R285). -/
def execJrZRel (e : Byte) (s : State) : Out := .next (jumpByIf .z e s)

/-- `JR NC,e` (R285). -/
def execJrNCRel (e : Byte) (s : State) : Out := .next (jumpByIf .nc e s)

/-- `JR C,e` (R285). -/
def execJrCRel (e : Byte) (s : State) : Out := .next (jumpByIf .c e s)

/-- `RET NZ` (R289). -/
def execRetNZ (s : State) : Out := .next (returnIf .nz s)

/-- `JP NZ,nn` (R282). -/
def execJpNZImm16 (nn : Word) (s : State) : Out := .next (jumpIf .nz nn s)

/-- `JP nn` (R281). -/
def execJpImm16 (nn : Word) (s : State) : Out := .next (jumpTo nn s)

/-- `CALL NZ,nn` (R287). -/
def execCallNZImm16 (nn : Word) (s : State) : Out := .next (callIf .nz nn s)

/-- `RST 0x00` (R291). -/
def execRst00 (s : State) : Out := .next (callTo (rstTarget 0) s)

/-- `RET Z` (R289). -/
def execRetZ (s : State) : Out := .next (returnIf .z s)

/-- `RET` (R288). -/
def execRet (s : State) : Out := .next (returnFromCall s)

/-- `JP Z,nn` (R282). -/
def execJpZImm16 (nn : Word) (s : State) : Out := .next (jumpIf .z nn s)

/-- `CALL Z,nn` (R287). -/
def execCallZImm16 (nn : Word) (s : State) : Out := .next (callIf .z nn s)

/-- `CALL nn` (R286). -/
def execCallImm16 (nn : Word) (s : State) : Out := .next (callTo nn s)

/-- `RST 0x08` (R291). -/
def execRst08 (s : State) : Out := .next (callTo (rstTarget 1) s)

/-- `RET NC` (R289). -/
def execRetNC (s : State) : Out := .next (returnIf .nc s)

/-- `JP NC,nn` (R282). -/
def execJpNCImm16 (nn : Word) (s : State) : Out := .next (jumpIf .nc nn s)

/-- `CALL NC,nn` (R287). -/
def execCallNCImm16 (nn : Word) (s : State) : Out := .next (callIf .nc nn s)

/-- `RST 0x10` (R291). -/
def execRst10 (s : State) : Out := .next (callTo (rstTarget 2) s)

/-- `RET C` (R289). -/
def execRetC (s : State) : Out := .next (returnIf .c s)

/-- `RETI` (R290). -/
def execReti (s : State) : Out := .next (returnFromInterrupt s)

/-- `JP C,nn` (R282). -/
def execJpCImm16 (nn : Word) (s : State) : Out := .next (jumpIf .c nn s)

/-- `CALL C,nn` (R287). -/
def execCallCImm16 (nn : Word) (s : State) : Out := .next (callIf .c nn s)

/-- `RST 0x18` (R291). -/
def execRst18 (s : State) : Out := .next (callTo (rstTarget 3) s)

/-- `RST 0x20` (R291). -/
def execRst20 (s : State) : Out := .next (callTo (rstTarget 4) s)

/-- `JP HL` (R283). -/
def execJpHl (s : State) : Out := .next { s with pc := getHl s }

/-- `RST 0x28` (R291). -/
def execRst28 (s : State) : Out := .next (callTo (rstTarget 5) s)

/-- `RST 0x30` (R291). -/
def execRst30 (s : State) : Out := .next (callTo (rstTarget 6) s)

/-- `RST 0x38` (R291). -/
def execRst38 (s : State) : Out := .next (callTo (rstTarget 7) s)

end Sys2Proof.Machine
end

