-- ==== Sys2Proof/Machine/Load16.lean ====
section
/-! DEFINITION. The 16-bit loads and the stack instructions (spec 42). Only POP AF writes flags. -/

namespace Sys2Proof.Machine

/-- `Internal(); Push16(rr2[p])` (R175). -/
def pushPair (p : R16Stack) (s : State) : State := push16 (getR16Stack p s) (internal s)

/-- `v <- Pop16(); rr2[p] <- v` (R176). -/
def popPair (p : R16Stack) (s : State) : State :=
  let r := pop16 s
  setR16Stack p r.1 r.2

/-! ## One meaning per row of the table -/

/-- `LD BC,nn` (R170). -/
def execLdBcImm16 (nn : Word) (s : State) : Out := .next (setR16 .bc nn s)

/-- `LD (nn),SP` (R171). -/
def execLdAtImm16Sp (nn : Word) (s : State) : Out := .next (memWrite16 nn s.sp s)

/-- `LD DE,nn` (R170). -/
def execLdDeImm16 (nn : Word) (s : State) : Out := .next (setR16 .de nn s)

/-- `LD HL,nn` (R170). -/
def execLdHlImm16 (nn : Word) (s : State) : Out := .next (setR16 .hl nn s)

/-- `LD SP,nn` (R170). -/
def execLdSpImm16 (nn : Word) (s : State) : Out := .next (setR16 .sp nn s)

/-- `POP BC` (R176). -/
def execPopBc (s : State) : Out := .next (popPair .bc s)

/-- `PUSH BC` (R175). -/
def execPushBc (s : State) : Out := .next (pushPair .bc s)

/-- `POP DE` (R176). -/
def execPopDe (s : State) : Out := .next (popPair .de s)

/-- `PUSH DE` (R175). -/
def execPushDe (s : State) : Out := .next (pushPair .de s)

/-- `POP HL` (R176). -/
def execPopHl (s : State) : Out := .next (popPair .hl s)

/-- `PUSH HL` (R175). -/
def execPushHl (s : State) : Out := .next (pushPair .hl s)

/-- `POP AF` (R176). -/
def execPopAf (s : State) : Out := .next (popPair .af s)

/-- `PUSH AF` (R175). -/
def execPushAf (s : State) : Out := .next (pushPair .af s)

/-- `LD SP,HL` (R172). -/
def execLdSpHl (s : State) : Out := .next (internal { s with sp := getHl s })

end Sys2Proof.Machine
end

