-- ==== Sys2Proof/Machine/Load8.lean ====
section
/-! DEFINITION. The 8-bit loads (spec 41). No load writes a flag. -/

namespace Sys2Proof.Machine

/-- `r[d] <- r[s]` (R140). -/
def ldReg (dst src : R8) (s : State) : State := setR8 dst (getR8 src s) s

/-- `r[d] <- n` (R141). -/
def ldRegImm (dst : R8) (n : Byte) (s : State) : State := setR8 dst n s

/-- `r[d] <- MemRead(HL, 1)`; HL is read before it is written (R142). -/
def ldRegHl (dst : R8) (s : State) : State :=
  let r := memRead (getHl s) s
  setR8 dst r.1 r.2

/-- `MemWrite(HL, 1, r[s])` (R143). -/
def ldHlReg (src : R8) (s : State) : State := memWrite (getHl s) (getR8 src s) s

/-- `A <- MemRead(addr, 1)` (R145, R146, R149, R153, R155). -/
def ldAFrom (addr : Word) (s : State) : State :=
  let r := memRead addr s
  setR8 .a r.1 r.2

/-- `MemWrite(addr, 1, A)` (R147, R148, R150, R154, R156). -/
def ldAtA (addr : Word) (s : State) : State := memWrite addr s.regs.a s

/-- `HL <- HL + delta`, no flag, no clock (R157 to R160). -/
def stepHl (delta : Word) (s : State) : State := setHl (getHl s + delta) s

/-! ## One meaning per row of the table -/

/-- `LD (BC),A` (R147). -/
def execLdAtBcA (s : State) : Out := .next (ldAtA (getBc s) s)

/-- `LD B,n` (R141). -/
def execLdBImm8 (n : Byte) (s : State) : Out := .next (ldRegImm .b n s)

/-- `LD A,(BC)` (R145). -/
def execLdAAtBc (s : State) : Out := .next (ldAFrom (getBc s) s)

/-- `LD C,n` (R141). -/
def execLdCImm8 (n : Byte) (s : State) : Out := .next (ldRegImm .c n s)

/-- `LD (DE),A` (R148). -/
def execLdAtDeA (s : State) : Out := .next (ldAtA (getDe s) s)

/-- `LD D,n` (R141). -/
def execLdDImm8 (n : Byte) (s : State) : Out := .next (ldRegImm .d n s)

/-- `LD A,(DE)` (R146). -/
def execLdAAtDe (s : State) : Out := .next (ldAFrom (getDe s) s)

/-- `LD E,n` (R141). -/
def execLdEImm8 (n : Byte) (s : State) : Out := .next (ldRegImm .e n s)

/-- `LD (HL+),A` (R157). -/
def execLdAtHlIncA (s : State) : Out := .next (stepHl 1 (ldAtA (getHl s) s))

/-- `LD H,n` (R141). -/
def execLdHImm8 (n : Byte) (s : State) : Out := .next (ldRegImm .h n s)

/-- `LD A,(HL+)` (R158). -/
def execLdAAtHlInc (s : State) : Out := .next (stepHl 1 (ldAFrom (getHl s) s))

/-- `LD L,n` (R141). -/
def execLdLImm8 (n : Byte) (s : State) : Out := .next (ldRegImm .l n s)

/-- `LD (HL-),A` (R159). -/
def execLdAtHlDecA (s : State) : Out := .next (stepHl (-1) (ldAtA (getHl s) s))

/-- `LD (HL),n` (R144). -/
def execLdAtHlImm8 (n : Byte) (s : State) : Out := .next (memWrite (getHl s) n s)

/-- `LD A,(HL-)` (R160). -/
def execLdAAtHlDec (s : State) : Out := .next (stepHl (-1) (ldAFrom (getHl s) s))

/-- `LD A,n` (R141). -/
def execLdAImm8 (n : Byte) (s : State) : Out := .next (ldRegImm .a n s)

/-- `LD B,B` (R140). -/
def execLdBB (s : State) : Out := .next (ldReg .b .b s)

/-- `LD B,C` (R140). -/
def execLdBC (s : State) : Out := .next (ldReg .b .c s)

/-- `LD B,D` (R140). -/
def execLdBD (s : State) : Out := .next (ldReg .b .d s)

/-- `LD B,E` (R140). -/
def execLdBE (s : State) : Out := .next (ldReg .b .e s)

/-- `LD B,H` (R140). -/
def execLdBH (s : State) : Out := .next (ldReg .b .h s)

/-- `LD B,L` (R140). -/
def execLdBL (s : State) : Out := .next (ldReg .b .l s)

/-- `LD B,(HL)` (R142). -/
def execLdBAtHl (s : State) : Out := .next (ldRegHl .b s)

/-- `LD B,A` (R140). -/
def execLdBA (s : State) : Out := .next (ldReg .b .a s)

/-- `LD C,B` (R140). -/
def execLdCB (s : State) : Out := .next (ldReg .c .b s)

/-- `LD C,C` (R140). -/
def execLdCC (s : State) : Out := .next (ldReg .c .c s)

/-- `LD C,D` (R140). -/
def execLdCD (s : State) : Out := .next (ldReg .c .d s)

/-- `LD C,E` (R140). -/
def execLdCE (s : State) : Out := .next (ldReg .c .e s)

/-- `LD C,H` (R140). -/
def execLdCH (s : State) : Out := .next (ldReg .c .h s)

/-- `LD C,L` (R140). -/
def execLdCL (s : State) : Out := .next (ldReg .c .l s)

/-- `LD C,(HL)` (R142). -/
def execLdCAtHl (s : State) : Out := .next (ldRegHl .c s)

/-- `LD C,A` (R140). -/
def execLdCA (s : State) : Out := .next (ldReg .c .a s)

/-- `LD D,B` (R140). -/
def execLdDB (s : State) : Out := .next (ldReg .d .b s)

/-- `LD D,C` (R140). -/
def execLdDC (s : State) : Out := .next (ldReg .d .c s)

/-- `LD D,D` (R140). -/
def execLdDD (s : State) : Out := .next (ldReg .d .d s)

/-- `LD D,E` (R140). -/
def execLdDE (s : State) : Out := .next (ldReg .d .e s)

/-- `LD D,H` (R140). -/
def execLdDH (s : State) : Out := .next (ldReg .d .h s)

/-- `LD D,L` (R140). -/
def execLdDL (s : State) : Out := .next (ldReg .d .l s)

/-- `LD D,(HL)` (R142). -/
def execLdDAtHl (s : State) : Out := .next (ldRegHl .d s)

/-- `LD D,A` (R140). -/
def execLdDA (s : State) : Out := .next (ldReg .d .a s)

/-- `LD E,B` (R140). -/
def execLdEB (s : State) : Out := .next (ldReg .e .b s)

/-- `LD E,C` (R140). -/
def execLdEC (s : State) : Out := .next (ldReg .e .c s)

/-- `LD E,D` (R140). -/
def execLdED (s : State) : Out := .next (ldReg .e .d s)

/-- `LD E,E` (R140). -/
def execLdEE (s : State) : Out := .next (ldReg .e .e s)

/-- `LD E,H` (R140). -/
def execLdEH (s : State) : Out := .next (ldReg .e .h s)

/-- `LD E,L` (R140). -/
def execLdEL (s : State) : Out := .next (ldReg .e .l s)

/-- `LD E,(HL)` (R142). -/
def execLdEAtHl (s : State) : Out := .next (ldRegHl .e s)

/-- `LD E,A` (R140). -/
def execLdEA (s : State) : Out := .next (ldReg .e .a s)

/-- `LD H,B` (R140). -/
def execLdHB (s : State) : Out := .next (ldReg .h .b s)

/-- `LD H,C` (R140). -/
def execLdHC (s : State) : Out := .next (ldReg .h .c s)

/-- `LD H,D` (R140). -/
def execLdHD (s : State) : Out := .next (ldReg .h .d s)

/-- `LD H,E` (R140). -/
def execLdHE (s : State) : Out := .next (ldReg .h .e s)

/-- `LD H,H` (R140). -/
def execLdHH (s : State) : Out := .next (ldReg .h .h s)

/-- `LD H,L` (R140). -/
def execLdHL (s : State) : Out := .next (ldReg .h .l s)

/-- `LD H,(HL)` (R142). -/
def execLdHAtHl (s : State) : Out := .next (ldRegHl .h s)

/-- `LD H,A` (R140). -/
def execLdHA (s : State) : Out := .next (ldReg .h .a s)

/-- `LD L,B` (R140). -/
def execLdLB (s : State) : Out := .next (ldReg .l .b s)

/-- `LD L,C` (R140). -/
def execLdLC (s : State) : Out := .next (ldReg .l .c s)

/-- `LD L,D` (R140). -/
def execLdLD (s : State) : Out := .next (ldReg .l .d s)

/-- `LD L,E` (R140). -/
def execLdLE (s : State) : Out := .next (ldReg .l .e s)

/-- `LD L,H` (R140). -/
def execLdLH (s : State) : Out := .next (ldReg .l .h s)

/-- `LD L,L` (R140). -/
def execLdLL (s : State) : Out := .next (ldReg .l .l s)

/-- `LD L,(HL)` (R142). -/
def execLdLAtHl (s : State) : Out := .next (ldRegHl .l s)

/-- `LD L,A` (R140). -/
def execLdLA (s : State) : Out := .next (ldReg .l .a s)

/-- `LD (HL),B` (R143). -/
def execLdAtHlB (s : State) : Out := .next (ldHlReg .b s)

/-- `LD (HL),C` (R143). -/
def execLdAtHlC (s : State) : Out := .next (ldHlReg .c s)

/-- `LD (HL),D` (R143). -/
def execLdAtHlD (s : State) : Out := .next (ldHlReg .d s)

/-- `LD (HL),E` (R143). -/
def execLdAtHlE (s : State) : Out := .next (ldHlReg .e s)

/-- `LD (HL),H` (R143). -/
def execLdAtHlH (s : State) : Out := .next (ldHlReg .h s)

/-- `LD (HL),L` (R143). -/
def execLdAtHlL (s : State) : Out := .next (ldHlReg .l s)

/-- `LD (HL),A` (R143). -/
def execLdAtHlA (s : State) : Out := .next (ldHlReg .a s)

/-- `LD A,B` (R140). -/
def execLdAB (s : State) : Out := .next (ldReg .a .b s)

/-- `LD A,C` (R140). -/
def execLdAC (s : State) : Out := .next (ldReg .a .c s)

/-- `LD A,D` (R140). -/
def execLdAD (s : State) : Out := .next (ldReg .a .d s)

/-- `LD A,E` (R140). -/
def execLdAE (s : State) : Out := .next (ldReg .a .e s)

/-- `LD A,H` (R140). -/
def execLdAH (s : State) : Out := .next (ldReg .a .h s)

/-- `LD A,L` (R140). -/
def execLdAL (s : State) : Out := .next (ldReg .a .l s)

/-- `LD A,(HL)` (R142). -/
def execLdAAtHl (s : State) : Out := .next (ldRegHl .a s)

/-- `LD A,A` (R140). -/
def execLdAA (s : State) : Out := .next (ldReg .a .a s)

/-- `LDH (n),A` (R154). -/
def execLdhAtImm8A (n : Byte) (s : State) : Out := .next (ldAtA (highPage n) s)

/-- `LD (C),A` (R156). -/
def execLdAtCA (s : State) : Out := .next (ldAtA (highPage s.regs.c) s)

/-- `LD (nn),A` (R150). -/
def execLdAtImm16A (nn : Word) (s : State) : Out := .next (ldAtA nn s)

/-- `LDH A,(n)` (R153). -/
def execLdhAAtImm8 (n : Byte) (s : State) : Out := .next (ldAFrom (highPage n) s)

/-- `LD A,(C)` (R155). -/
def execLdAAtC (s : State) : Out := .next (ldAFrom (highPage s.regs.c) s)

/-- `LD A,(nn)` (R149). -/
def execLdAAtImm16 (nn : Word) (s : State) : Out := .next (ldAFrom nn s)

end Sys2Proof.Machine
end

