-- ==== Sys2Proof/Machine/RotateAcc.lean ====
section
/-! DEFINITION. Accumulator rotates, DAA, CPL, SCF, CCF (spec 45). -/

namespace Sys2Proof.Machine

/-- An accumulator rotate: the rotation of the CB form with Z, N, H cleared (R235 to R238). -/
def rotateA (op : ShiftOp) (s : State) : State :=
  let r := shiftResult op s.regs.a (flagC s)
  setF (packF false false false r.2) (setR8 .a r.1 s)

/-- DAA (R239). -/
def daaA (s : State) : State :=
  let r := daa8 s.regs.a (flagN s) (flagH s) (flagC s)
  setF r.2 (setR8 .a r.1 s)

/-- CPL: `A <- ~A`, N = H = 1, Z and C kept (R240). -/
def cplA (s : State) : State :=
  setF (packF (flagZ s) true true (flagC s)) (setR8 .a (~~~s.regs.a) s)

/-! ## One meaning per row of the table -/

/-- `RLCA` (R235). -/
def execRlca (s : State) : Out := .next (rotateA .rlc s)

/-- `RRCA` (R237). -/
def execRrca (s : State) : Out := .next (rotateA .rrc s)

/-- `RLA` (R236). -/
def execRla (s : State) : Out := .next (rotateA .rl s)

/-- `RRA` (R238). -/
def execRra (s : State) : Out := .next (rotateA .rr s)

/-- `DAA` (R239). -/
def execDaa (s : State) : Out := .next (daaA s)

/-- `CPL` (R240). -/
def execCpl (s : State) : Out := .next (cplA s)

/-- `SCF` (R241). -/
def execScf (s : State) : Out := .next (setF (packF (flagZ s) false false true) s)

/-- `CCF` (R242). -/
def execCcf (s : State) : Out := .next (setF (packF (flagZ s) false false (!flagC s)) s)

end Sys2Proof.Machine
end

