-- ==== Sys2Proof/Machine/System.lean ====
section
/-! DEFINITION. NOP, DI, EI, HALT, STOP and the opcodes with no instruction (spec 48). -/

namespace Sys2Proof.Machine

/-- HALT's three cases: with IME set or nothing pending the CPU halts; else the next opcode fetch does not advance PC
(R304). -/
def haltCpu (s : State) : State :=
  if s.ime || pendingInterrupts s == 0 then { s with halt := true } else { s with haltBug := true }

/-! ## One meaning per row of the table -/

/-- `NOP` (R300). -/
def execNop (s : State) : Out := .next s

/-- `STOP` (R305). -/
def execStop (_n : Byte) (_s : State) : Out := .refused .stop

/-- `HALT` (R304). -/
def execHalt (s : State) : Out := .next (haltCpu s)

/-- `ILLEGAL_D3` (R306). -/
def execIllegalD3 (s : State) : Out := .fault (.illegalOpcode 0xD3 s.opcodePc)

/-- `ILLEGAL_DB` (R306). -/
def execIllegalDB (s : State) : Out := .fault (.illegalOpcode 0xDB s.opcodePc)

/-- `ILLEGAL_DD` (R306). -/
def execIllegalDD (s : State) : Out := .fault (.illegalOpcode 0xDD s.opcodePc)

/-- `ILLEGAL_E3` (R306). -/
def execIllegalE3 (s : State) : Out := .fault (.illegalOpcode 0xE3 s.opcodePc)

/-- `ILLEGAL_E4` (R306). -/
def execIllegalE4 (s : State) : Out := .fault (.illegalOpcode 0xE4 s.opcodePc)

/-- `ILLEGAL_EB` (R306). -/
def execIllegalEB (s : State) : Out := .fault (.illegalOpcode 0xEB s.opcodePc)

/-- `ILLEGAL_EC` (R306). -/
def execIllegalEC (s : State) : Out := .fault (.illegalOpcode 0xEC s.opcodePc)

/-- `ILLEGAL_ED` (R306). -/
def execIllegalED (s : State) : Out := .fault (.illegalOpcode 0xED s.opcodePc)

/-- `DI` (R301). -/
def execDi (s : State) : Out := .next { s with ime := false }

/-- `ILLEGAL_F4` (R306). -/
def execIllegalF4 (s : State) : Out := .fault (.illegalOpcode 0xF4 s.opcodePc)

/-- `EI` (R302). -/
def execEi (s : State) : Out := .next { s with ime := true }

/-- `ILLEGAL_FC` (R306). -/
def execIllegalFC (s : State) : Out := .fault (.illegalOpcode 0xFC s.opcodePc)

/-- `ILLEGAL_FD` (R306). -/
def execIllegalFD (s : State) : Out := .fault (.illegalOpcode 0xFD s.opcodePc)

end Sys2Proof.Machine
end

