-- ==== Sys2Proof/Machine/Fetch.lean ====
section
/-! DEFINITION. Fetching and decoding one instruction, with the HALT bug; the halted cycle (spec 40 R125, R126). -/

namespace Sys2Proof.Machine

/-- The beginning of a Step: `clocks <- 0` (40 R125). -/
def beginStep (s : State) : State := { s with clocks := 0 }

/-- A halted Step: one machine cycle, nothing fetched (40 R125 step 2). -/
def haltedCycle (s : State) : State := addClocks 4 s

/-- `FetchOpcode()`: while `haltBug` is set PC is left where it is and the flag is cleared (40 R126). The fetch address is
kept in `opcodePc` (40 R125). -/
def fetchOpcode (s : State) : Byte × State :=
  let r := memRead s.pc { s with opcodePc := s.pc }
  if r.2.haltBug then (r.1, { r.2 with haltBug := false })
  else (r.1, { r.2 with pc := r.2.pc + 1 })

/-- The bytes after the first one, as many as `opLength` says, each with `Fetch8`; the second is fetched first in stream
order (30 R103, R108, R109). Bytes an instruction does not have are 0. -/
def fetchRest (o : Byte) (s : State) : Byte × Byte × State :=
  match opLength o with
  | 3 =>
    let r1 := fetch8 s
    let r2 := fetch8 r1.2
    (r1.1, r2.1, r2.2)
  | 2 =>
    let r1 := fetch8 s
    (r1.1, 0, r1.2)
  | _ => (0, 0, s)

/-- The instruction at PC, all its bytes fetched (40 R125 step 3). -/
def fetchInstr (s : State) : Instr × State :=
  let o := fetchOpcode s
  let r := fetchRest o.1 o.2
  (decodeInstr o.1 r.1 r.2.1, r.2.2)

end Sys2Proof.Machine
end

