-- ==== Sys2Proof/Machine/Step.lean ====
section
/-! DEFINITION. One `RunOne` of the machine (spec 40 R125, R127), and placing an instruction where it is fetched. -/

namespace Sys2Proof.Machine

/-- One Step and its hand-off: a halted cycle, or fetch and execution of one instruction; then interrupt dispatch with
the IME of the Step's beginning, then the timer and the PPU (40 R125, R127). -/
def step (s : State) : Host.Outcome State Fault Refusal :=
  if s.halt then .next (endStep s.ime (haltedCycle (beginStep s)))
  else
    match fetchInstr (beginStep s) with
    | (i, s1) =>
      match exec i s1 with
      | .next s2 => .next (endStep s.ime s2)
      | .fault r => .fault r
      | .refused r => .refused r

/-- The state with the instruction whose table bits are `w` placed where the next Step fetches it: at PC, with the
CPU not halted and no HALT bug armed (host interface; log 6, log 7). -/
def State.withFetchWord (s : State) (nbits w : Nat) : State :=
  placeBytes s.pc (tableBytes nbits w) { s with halt := false, haltBug := false }

end Sys2Proof.Machine
end

