-- ==== Sys2Proof/Machine/Forms.lean ====
section
/-! DEFINITION. The constructor of each instruction form at each operand, as the statements name them: `Form.<form>`
applied to the operands is the row of spec/opcode_table.json for those operands; and what each operand form reads. -/

namespace Sys2Proof.Machine

/-- The operand of a CB instruction: a register or the memory byte at HL (spec 30 R104). -/
inductive Loc8 where
  | reg (r : R8) | atHl
  deriving DecidableEq, Repr

/-- The operand of an 8-bit operation: a register, the memory byte at HL, or an immediate byte (spec 43). -/
inductive Src8 where
  | reg (r : R8) | atHl | imm (n : Byte)
  deriving DecidableEq, Repr

/-- Where the loads between A and memory find their byte (spec 41 R145 to R160). -/
inductive AForm where
  | atBc | atDe | absolute (nn : Word) | highImm (n : Byte) | highC | hlInc | hlDec
  deriving DecidableEq, Repr

/-! ## What the operand forms read -/

/-- The byte that the operand reads in state `s`. -/
def Src8.value : Src8 → State → Byte
  | .reg r, s => s.regs.get r
  | .atHl, s => (busRead (getHl s) s).1
  | .imm n, _ => n

/-- The clocks that reading the operand adds to those of the instruction's fetch. -/
def Src8.clocks : Src8 → Nat
  | .atHl => 4
  | _ => 0

/-- The byte that the operand reads in state `s`. -/
def Loc8.value : Loc8 → State → Byte
  | .reg r, s => s.regs.get r
  | .atHl, s => (busRead (getHl s) s).1

/-- The address that the form reads or writes in state `s` (41 R145 to R160). -/
def AForm.address : AForm → State → Word
  | .atBc, s => getBc s
  | .atDe, s => getDe s
  | .absolute nn, _ => nn
  | .highImm n, _ => highPage n
  | .highC, s => highPage s.regs.c
  | .hlInc, s => getHl s
  | .hlDec, s => getHl s

/-- What the form adds to HL (41 R157 to R160). -/
def AForm.hlStep : AForm → Word
  | .hlInc => 1
  | .hlDec => -1
  | _ => 0

/-! ## The register field (30 R104), the pair fields (R105), the condition field (R106) as numbers -/

/-- The number of `r` in the 3-bit register field (R104). -/
def R8.code : R8 → Nat
  | .b => 0 | .c => 1 | .d => 2 | .e => 3 | .h => 4 | .l => 5 | .a => 7

/-- The number of a CB operand in the 3-bit register field (R104). -/
def Loc8.code : Loc8 → Nat
  | .reg r => R8.code r
  | .atHl => 6

/-- The number of `rr` in the pair field (R105). -/
def R16.code : R16 → Nat
  | .bc => 0 | .de => 1 | .hl => 2 | .sp => 3

/-- The number of `rr2` in the pair field of PUSH and POP (R105). -/
def R16Stack.code : R16Stack → Nat
  | .bc => 0 | .de => 1 | .hl => 2 | .af => 3

/-- The number of `cc` in the condition field (R106). -/
def Cond.code : Cond → Nat
  | .nz => 0 | .z => 1 | .nc => 2 | .c => 3

/-- The number of an 8-bit operation in bits 5..3 of its opcode (R110). -/
def AluOp.code : AluOp → Nat
  | .add => 0 | .adc => 1 | .sub => 2 | .sbc => 3 | .and => 4 | .xor => 5 | .or => 6 | .cp => 7

/-- The number of a rotate or shift in bits 5..3 of its CB byte (R107). -/
def ShiftOp.code : ShiftOp → Nat
  | .rlc => 0 | .rrc => 1 | .rl => 2 | .rr => 3 | .sla => 4 | .sra => 5 | .swap => 6 | .srl => 7

/-! ## Selecting by an operand -/

/-- One of seven by register. -/
def Form.byReg {α : Type} (b c d e h l a : α) : R8 → α
  | .b => b | .c => c | .d => d | .e => e | .h => h | .l => l | .a => a

/-- One of eight by CB operand. -/
def Form.byLoc {α : Type} (b c d e h l m a : α) : Loc8 → α
  | .reg r => Form.byReg b c d e h l a r
  | .atHl => m

/-- One of eight by a 3-bit number. -/
def Form.byBit {α : Type} (i0 i1 i2 i3 i4 i5 i6 i7 : α) (n : Fin 8) : α :=
  match n.val with
  | 0 => i0 | 1 => i1 | 2 => i2 | 3 => i3 | 4 => i4 | 5 => i5 | 6 => i6 | _ => i7

/-! ## The forms -/

/-- `LD r,r'` (R140). -/
def Form.ldReg (dst src : R8) : Instr :=
  Form.byReg
    (Form.byReg .ldBB .ldBC .ldBD .ldBE .ldBH .ldBL .ldBA src)
    (Form.byReg .ldCB .ldCC .ldCD .ldCE .ldCH .ldCL .ldCA src)
    (Form.byReg .ldDB .ldDC .ldDD .ldDE .ldDH .ldDL .ldDA src)
    (Form.byReg .ldEB .ldEC .ldED .ldEE .ldEH .ldEL .ldEA src)
    (Form.byReg .ldHB .ldHC .ldHD .ldHE .ldHH .ldHL .ldHA src)
    (Form.byReg .ldLB .ldLC .ldLD .ldLE .ldLH .ldLL .ldLA src)
    (Form.byReg .ldAB .ldAC .ldAD .ldAE .ldAH .ldAL .ldAA src)
    dst

/-- `LD r,n` (R141). -/
def Form.ldImm (dst : R8) (n : Byte) : Instr :=
  Form.byReg (.ldBImm8 n) (.ldCImm8 n) (.ldDImm8 n) (.ldEImm8 n) (.ldHImm8 n) (.ldLImm8 n) (.ldAImm8 n) dst

/-- `LD r,(HL)` (R142). -/
def Form.ldFromHl : R8 → Instr := Form.byReg .ldBAtHl .ldCAtHl .ldDAtHl .ldEAtHl .ldHAtHl .ldLAtHl .ldAAtHl

/-- `LD (HL),r` (R143). -/
def Form.ldToHl : R8 → Instr := Form.byReg .ldAtHlB .ldAtHlC .ldAtHlD .ldAtHlE .ldAtHlH .ldAtHlL .ldAtHlA

/-- The loads of A from memory (R145, R146, R149, R153, R155, R158, R160). -/
def Form.loadA : AForm → Instr
  | .atBc => .ldAAtBc
  | .atDe => .ldAAtDe
  | .absolute nn => .ldAAtImm16 nn
  | .highImm n => .ldhAAtImm8 n
  | .highC => .ldAAtC
  | .hlInc => .ldAAtHlInc
  | .hlDec => .ldAAtHlDec

/-- The stores of A to memory (R147, R148, R150, R154, R156, R157, R159). -/
def Form.storeA : AForm → Instr
  | .atBc => .ldAtBcA
  | .atDe => .ldAtDeA
  | .absolute nn => .ldAtImm16A nn
  | .highImm n => .ldhAtImm8A n
  | .highC => .ldAtCA
  | .hlInc => .ldAtHlIncA
  | .hlDec => .ldAtHlDecA

/-- `LD rr,nn` (R170). -/
def Form.ldPair (p : R16) (nn : Word) : Instr :=
  match p with
  | .bc => .ldBcImm16 nn | .de => .ldDeImm16 nn | .hl => .ldHlImm16 nn | .sp => .ldSpImm16 nn

/-- `PUSH rr` (R175). -/
def Form.push : R16Stack → Instr
  | .bc => .pushBc | .de => .pushDe | .hl => .pushHl | .af => .pushAf

/-- `POP rr` (R176). -/
def Form.pop : R16Stack → Instr
  | .bc => .popBc | .de => .popDe | .hl => .popHl | .af => .popAf

/-- The 8-bit operations on A and a register, the byte at HL or an immediate (R193 to R216). -/
def Form.alu (op : AluOp) (x : Src8) : Instr :=
  match x with
  | .reg r =>
    match op with
    | .add => Form.byReg .addAB .addAC .addAD .addAE .addAH .addAL .addAA r
    | .adc => Form.byReg .adcAB .adcAC .adcAD .adcAE .adcAH .adcAL .adcAA r
    | .sub => Form.byReg .subB .subC .subD .subE .subH .subL .subA r
    | .sbc => Form.byReg .sbcAB .sbcAC .sbcAD .sbcAE .sbcAH .sbcAL .sbcAA r
    | .and => Form.byReg .andB .andC .andD .andE .andH .andL .andA r
    | .xor => Form.byReg .xorB .xorC .xorD .xorE .xorH .xorL .xorA r
    | .or => Form.byReg .orB .orC .orD .orE .orH .orL .orA r
    | .cp => Form.byReg .cpB .cpC .cpD .cpE .cpH .cpL .cpA r
  | .atHl =>
    match op with
    | .add => .addAAtHl
    | .adc => .adcAAtHl
    | .sub => .subAtHl
    | .sbc => .sbcAAtHl
    | .and => .andAtHl
    | .xor => .xorAtHl
    | .or => .orAtHl
    | .cp => .cpAtHl
  | .imm n =>
    match op with
    | .add => .addAImm8 n
    | .adc => .adcAImm8 n
    | .sub => .subImm8 n
    | .sbc => .sbcAImm8 n
    | .and => .andImm8 n
    | .xor => .xorImm8 n
    | .or => .orImm8 n
    | .cp => .cpImm8 n

/-- `INC r` (R217). -/
def Form.incReg : R8 → Instr := Form.byReg .incB .incC .incD .incE .incH .incL .incA

/-- `DEC r` (R219). -/
def Form.decReg : R8 → Instr := Form.byReg .decB .decC .decD .decE .decH .decL .decA

/-- `ADD HL,rr` (R225). -/
def Form.addHl : R16 → Instr
  | .bc => .addHlBc | .de => .addHlDe | .hl => .addHlHl | .sp => .addHlSp

/-- `INC rr` (R226). -/
def Form.incPair : R16 → Instr
  | .bc => .incBc | .de => .incDe | .hl => .incHl | .sp => .incSp

/-- `DEC rr` (R227). -/
def Form.decPair : R16 → Instr
  | .bc => .decBc | .de => .decDe | .hl => .decHl | .sp => .decSp

/-- The rotates, shifts and SWAP of the CB table (R251 to R266). -/
def Form.shift (op : ShiftOp) (x : Loc8) : Instr :=
  match op with
  | .rlc => Form.byLoc .rlcB .rlcC .rlcD .rlcE .rlcH .rlcL .rlcAtHl .rlcA x
  | .rrc => Form.byLoc .rrcB .rrcC .rrcD .rrcE .rrcH .rrcL .rrcAtHl .rrcA x
  | .rl => Form.byLoc .rlB .rlC .rlD .rlE .rlH .rlL .rlAtHl .rlA x
  | .rr => Form.byLoc .rrB .rrC .rrD .rrE .rrH .rrL .rrAtHl .rrA x
  | .sla => Form.byLoc .slaB .slaC .slaD .slaE .slaH .slaL .slaAtHl .slaA x
  | .sra => Form.byLoc .sraB .sraC .sraD .sraE .sraH .sraL .sraAtHl .sraA x
  | .swap => Form.byLoc .swapB .swapC .swapD .swapE .swapH .swapL .swapAtHl .swapA x
  | .srl => Form.byLoc .srlB .srlC .srlD .srlE .srlH .srlL .srlAtHl .srlA x

/-- `BIT b,x` (R267, R268). -/
def Form.bit (b : Fin 8) (x : Loc8) : Instr :=
  Form.byBit
    (Form.byLoc .bit0B .bit0C .bit0D .bit0E .bit0H .bit0L .bit0AtHl .bit0A x)
    (Form.byLoc .bit1B .bit1C .bit1D .bit1E .bit1H .bit1L .bit1AtHl .bit1A x)
    (Form.byLoc .bit2B .bit2C .bit2D .bit2E .bit2H .bit2L .bit2AtHl .bit2A x)
    (Form.byLoc .bit3B .bit3C .bit3D .bit3E .bit3H .bit3L .bit3AtHl .bit3A x)
    (Form.byLoc .bit4B .bit4C .bit4D .bit4E .bit4H .bit4L .bit4AtHl .bit4A x)
    (Form.byLoc .bit5B .bit5C .bit5D .bit5E .bit5H .bit5L .bit5AtHl .bit5A x)
    (Form.byLoc .bit6B .bit6C .bit6D .bit6E .bit6H .bit6L .bit6AtHl .bit6A x)
    (Form.byLoc .bit7B .bit7C .bit7D .bit7E .bit7H .bit7L .bit7AtHl .bit7A x)
    b

/-- `RES b,x` (R269, R270). -/
def Form.res (b : Fin 8) (x : Loc8) : Instr :=
  Form.byBit
    (Form.byLoc .res0B .res0C .res0D .res0E .res0H .res0L .res0AtHl .res0A x)
    (Form.byLoc .res1B .res1C .res1D .res1E .res1H .res1L .res1AtHl .res1A x)
    (Form.byLoc .res2B .res2C .res2D .res2E .res2H .res2L .res2AtHl .res2A x)
    (Form.byLoc .res3B .res3C .res3D .res3E .res3H .res3L .res3AtHl .res3A x)
    (Form.byLoc .res4B .res4C .res4D .res4E .res4H .res4L .res4AtHl .res4A x)
    (Form.byLoc .res5B .res5C .res5D .res5E .res5H .res5L .res5AtHl .res5A x)
    (Form.byLoc .res6B .res6C .res6D .res6E .res6H .res6L .res6AtHl .res6A x)
    (Form.byLoc .res7B .res7C .res7D .res7E .res7H .res7L .res7AtHl .res7A x)
    b

/-- `SET b,x` (R271, R272). -/
def Form.set (b : Fin 8) (x : Loc8) : Instr :=
  Form.byBit
    (Form.byLoc .set0B .set0C .set0D .set0E .set0H .set0L .set0AtHl .set0A x)
    (Form.byLoc .set1B .set1C .set1D .set1E .set1H .set1L .set1AtHl .set1A x)
    (Form.byLoc .set2B .set2C .set2D .set2E .set2H .set2L .set2AtHl .set2A x)
    (Form.byLoc .set3B .set3C .set3D .set3E .set3H .set3L .set3AtHl .set3A x)
    (Form.byLoc .set4B .set4C .set4D .set4E .set4H .set4L .set4AtHl .set4A x)
    (Form.byLoc .set5B .set5C .set5D .set5E .set5H .set5L .set5AtHl .set5A x)
    (Form.byLoc .set6B .set6C .set6D .set6E .set6H .set6L .set6AtHl .set6A x)
    (Form.byLoc .set7B .set7C .set7D .set7E .set7H .set7L .set7AtHl .set7A x)
    b

/-- `JP cc,nn` (R282). -/
def Form.jpIf (cc : Cond) (nn : Word) : Instr :=
  match cc with
  | .nz => .jpNZImm16 nn | .z => .jpZImm16 nn | .nc => .jpNCImm16 nn | .c => .jpCImm16 nn

/-- `JR cc,e` (R285). -/
def Form.jrIf (cc : Cond) (e : Byte) : Instr :=
  match cc with
  | .nz => .jrNZRel e | .z => .jrZRel e | .nc => .jrNCRel e | .c => .jrCRel e

/-- `CALL cc,nn` (R287). -/
def Form.callIf (cc : Cond) (nn : Word) : Instr :=
  match cc with
  | .nz => .callNZImm16 nn | .z => .callZImm16 nn | .nc => .callNCImm16 nn | .c => .callCImm16 nn

/-- `RET cc` (R289). -/
def Form.retIf : Cond → Instr
  | .nz => .retNZ | .z => .retZ | .nc => .retNC | .c => .retC

/-- `RST t` (R291). -/
def Form.rst : Fin 8 → Instr :=
  Form.byBit .rst00 .rst08 .rst10 .rst18 .rst20 .rst28 .rst30 .rst38

/-- The eleven opcodes with no instruction, each with its byte (30 R112, 48 R306). -/
def Form.illegal : List (Instr × Byte) :=
  [(.illegalD3, 0xD3), (.illegalDB, 0xDB), (.illegalDD, 0xDD), (.illegalE3, 0xE3), (.illegalE4, 0xE4),
   (.illegalEB, 0xEB), (.illegalEC, 0xEC), (.illegalED, 0xED), (.illegalF4, 0xF4), (.illegalFC, 0xFC),
   (.illegalFD, 0xFD)]

end Sys2Proof.Machine
end

