-- ==== Sys2Proof/Machine/HostActions.lean ====
section
/-! DEFINITION. What the host may do between two Steps: raise the serial or the joypad request (spec 60 R319, R341). -/

namespace Sys2Proof.Machine

/-- `RaiseSerial: IF[3] <- 1` (60 R319). -/
def raiseSerial (s : State) : State := { s with ifr := s.ifr ||| 0b01000 }

/-- `RaiseJoypad: IF[4] <- 1` (60 R319). -/
def raiseJoypad (s : State) : State := { s with ifr := s.ifr ||| 0b10000 }

end Sys2Proof.Machine
end

