-- ==== Sys2Proof/Machine/Launch.lean ====
section
/-! DEFINITION. The launch profiles, and what the host supplies before a run (spec 70 R450, R451, 10 R44, R45). -/

namespace Sys2Proof.Machine

/-- "Boot ROM load: exactly 256 bytes"; with any other size no machine is constructed (70 R450). -/
def loadBootRom (image : List Byte) (s : State) : Option State :=
  if image.length = 256 then some { s with bootRom := Memory.load [] 0 image } else none

/-- Cartridge ROM bytes placed from address `a` on, flat-mapped (20 R66). DESIGN CHOICE (safe): `cart_rom` has the
addresses 0x0000 to 0x7FFF only, so the bytes of an image that would lie past 0x7FFF are dropped (log 17). -/
def loadCartridge (a : Nat) (image : List Byte) (s : State) : State :=
  { s with mem := s.mem.load a (image.take (0x8000 - a)) }

/-- Launch profile `boot`: the fixed values of R44; every value that R44 leaves unspecified, and the parameters, are
those of `params` (10 R44, 70 R450). -/
def launchBoot (params : State) : State :=
  { State.reset with
    regs := { params.regs with f := params.regs.f &&& 0xF0 }
    sp := params.sp
    mem := params.mem
    bootRom := params.bootRom
    cartRamPresent := params.cartRamPresent
    spriteFetchClocks := params.spriteFetchClocks
    ppu := { Ppu.reset with fb := params.ppu.fb }
    draws := params.draws }

/-- "The PPU state consistent with rule R41" (10 R45): the bounds of 10 R41, mode 1 exactly on lines 144 to 153 while the
LCD is on; with the LCD off LY and the mode are 0 (62 R390), and mode 3 has a pixel left to output, without which LX would
pass 160 at once (62 R402). DEDUCED (safe): the last two, which R41 needs to hold from there on (log 16). -/
abbrev Ppu.launchable (p : Ppu) : Prop :=
  p.ly.toNat ≤ 153 ∧ p.dot ≤ 455 ∧ p.spriteBuf.length ≤ 10
    ∧ p.line.fifo.length ≤ 16 ∧ p.line.lx ≤ 160 ∧ p.line.discard ≤ 7
    ∧ (p.lcdOn = true → (p.mode = .vblank ↔ 144 ≤ p.ly.toNat))
    ∧ (p.lcdOn = false → p.ly = 0 ∧ p.mode = .hblank)
    ∧ (p.mode = .transfer → p.line.lx < 160)

/-- The launch state of profile `direct`: PC is `entryPc`, the boot ROM is unmapped, and the values that R45 fixes are
fixed; every other piece of state is that of `params` (10 R45). -/
def directState (entryPc : Word) (params : State) : State :=
  { params with
    pc := entryPc
    bootRomEnabled := false
    halt := false
    haltBug := false
    dmaBusy := 0
    regs := { params.regs with f := params.regs.f &&& 0xF0 }
    timer := { params.timer with ic := params.timer.ic &&& 0xFFFC, overflowPending := false }
    ppu := { params.ppu with statLine := params.ppu.statLevel } }

/-- Launch profile `direct`: with a PPU state that is not consistent with R41 no machine is constructed (10 R45,
70 R451, log 16). -/
def launchDirect (entryPc : Word) (params : State) : Option State :=
  if params.ppu.launchable then some (directState entryPc params) else none

end Sys2Proof.Machine
end

