-- ==== Sys2Proof/Safety.lean ====
section
/-! DEFINITION. The terms that claims use: the invariant of reachable states, flags by name, what a store leaves alone,
counting edges and lines, running for a number of clocks. -/

namespace Sys2Proof.Machine

/-! ## Flags -/

/-- The byte `f` holds the flags `z`, `n`, `h`, `c` in bits 7 to 4 and 0 in bits 3..0 (10 R15, R16). -/
def FlagsAre (f : Byte) (z n h c : Bool) : Prop :=
  f.getLsbD 7 = z ∧ f.getLsbD 6 = n ∧ f.getLsbD 5 = h ∧ f.getLsbD 4 = c ∧ f.extractLsb' 0 4 = 0

/-! ## Storage -/

/-- The addresses whose byte is kept in `mem` under their own number: ROM, video RAM, cartridge RAM, work RAM, OAM, high
RAM (20 R60). -/
abbrev storageKey (k : Nat) : Prop := k ≤ 0xDFFF ∨ (0xFE00 ≤ k ∧ k ≤ 0xFE9F) ∨ (0xFF80 ≤ k ∧ k ≤ 0xFFFE)

/-- A CPU write to `a` is kept as a byte of `mem`: the row has writable storage, is not blocked, and is present
(20 R60, R62, R63). -/
def storesByte (s : State) (a : Word) : Bool :=
  !gated s a &&
    (match regionOf a with
      | .vram => true
      | .cartRam => s.cartRamPresent
      | .wram => true
      | .mirror => true
      | .oam => true
      | .hram => true
      | _ => false)

/-- The keys of `mem` that a CPU write to `a` may change: the home of `a`, and all of OAM for the DMA register
(20 R62, R72). -/
def mayStore (a : Word) (k : Nat) : Prop :=
  k = homeKey a ∨ (a = 0xFF46 ∧ 0xFE00 ≤ k ∧ k ≤ 0xFE9F)

/-- What CPU writes at the addresses `as` leave alone: no CPU register; no byte outside the bytes stored to; IE unless
0xFFFF is written; no device register unless an I/O address is written. Clocks are not constrained, nor the free-byte
counter where an I/O address is written. -/
def StoreFrame (as : List Word) (s t : State) : Prop :=
  t = { s with
        mem := t.mem, ie := t.ie, ifr := t.ifr, timer := t.timer, ppu := t.ppu, dma := t.dma,
        dmaBusy := t.dmaBusy, bootRomEnabled := t.bootRomEnabled, clocks := t.clocks, draws := t.draws }
  ∧ (∀ k, (∀ a ∈ as, ¬ mayStore a k) → t.mem.read k = s.mem.read k)
  ∧ ((0xFFFF : Word) ∉ as → t.ie = s.ie)
  ∧ ((∀ a ∈ as, regionOf a ≠ .io) →
      t = { s with mem := t.mem, ie := t.ie, clocks := t.clocks })

/-- The same pieces of state but for registers, stack pointer, clocks and free-byte counter: no memory byte, no IME, IE
or IF, no halt flag, no device register, no PC. -/
def RegsOnly (s t : State) : Prop :=
  t = { s with regs := t.regs, sp := t.sp, clocks := t.clocks, draws := t.draws }

/-! ## The invariant (10 R41 and what it rests on) -/

/-- `F[3:0] = 0`, and `halt` and `haltBug` are not both set (10 R41). -/
abbrev CpuInv (s : State) : Prop :=
  s.regs.f.extractLsb' 0 4 = 0 ∧ ¬ (s.halt = true ∧ s.haltBug = true)

/-- `IC[1:0] = 0` (10 R41). -/
abbrev TimerInv (t : Timer) : Prop := t.ic.extractLsb' 0 2 = 0

/-- The bytes of a frame: keys of the 160 x 144 screen, shades 0 to 3, canonical form (10 R36, log 13). -/
abbrev FrameInv (m : Memory) : Prop :=
  m.wf ∧ ∀ x ∈ m, x.1 < 160 * 144 ∧ x.2.toNat ≤ 3

/-- The fetcher and compositor: `length(fifo) <= 16`, `LX <= 160`, `discard <= 7` (10 R41), and at most ten sprite fetches
of 16 clocks waited for. -/
abbrev LineInv (l : Line) : Prop :=
  l.fifo.length ≤ 16 ∧ l.lx ≤ 160 ∧ l.discard ≤ 7 ∧ l.stall ≤ 160

/-- The PPU: `LY <= 153`, `dot <= 455`, `length(spriteBuf) <= 10`, mode 1 exactly when `LY >= 144` while the LCD is on (10
R41); mode 3 has pixels left; with the LCD off LY, `dot` and mode are 0 (62 R390); `statLine` is the level of the STAT
signal (62 R397). -/
abbrev PpuInv (p : Ppu) : Prop :=
  p.ly.toNat ≤ 153 ∧ p.dot ≤ 455 ∧ p.spriteBuf.length ≤ 10 ∧ LineInv p.line
  ∧ (p.mode = .transfer → p.line.lx < 160)
  ∧ (p.lcdOn = true → (p.mode = .vblank ↔ 144 ≤ p.ly.toNat))
  ∧ (p.lcdOn = false → p.ly = 0 ∧ p.dot = 0 ∧ p.mode = .hblank)
  ∧ p.statLine = p.statLevel
  ∧ FrameInv p.fb ∧ FrameInv p.frame

/-- Memory lists storage addresses only, in canonical form; so does the boot ROM. -/
abbrev StorageInv (s : State) : Prop :=
  s.mem.wf ∧ (∀ x ∈ s.mem, storageKey x.1) ∧ s.bootRom.wf ∧ ∀ x ∈ s.bootRom, x.1 ≤ 0xFF

/-- The invariant of every reachable state (10 R41, strengthened so that each step keeps it). -/
abbrev Inv (s : State) : Prop :=
  CpuInv s ∧ TimerInv s.timer ∧ PpuInv s.ppu ∧ StorageInv s ∧ s.dmaBusy ≤ 640

/-! ## Timer and PPU time -/

/-- How many times bit `b` of a counter falls from 1 to 0 while the counter runs, unwrapped, from `c` to `c + n`
(61 R358: "Bit b of IC falls once every 2^(b+1) clocks"). -/
def fallingEdges (b c n : Nat) : Nat := (c + n) / 2 ^ (b + 1) - c / 2 ^ (b + 1)

/-- The clock within the frame: 456 for each line before LY, and `dot` (62 R387). -/
def framePosition (p : Ppu) : Nat := 456 * p.ly.toNat + p.dot

/-! ## The picture of a line in plain arithmetic (62 R411 to R414, R420, R430, R431) -/

/-- The colour index 0 to 3 at bit `bit` of row `row` of the background or window tile whose number stands in the tile map
at `cell`: signed or unsigned tile numbers, the second byte of the row gives the high bit (62 R413, R414, R431). -/
def tileColor (mem : Memory) (p : Ppu) (cell row bit : Nat) : Nat :=
  let tile := (mem.read cell).toNat
  let a := (if p.lcdc.getLsbD 4 = true then 0x8000 + 16 * tile else 0x8800 + 16 * ((tile + 128) % 256)) + 2 * row
  if p.lcdc.getLsbD 0 = true then
    2 * ((mem.read (a + 1)).toNat / 2 ^ bit % 2) + (mem.read a).toNat / 2 ^ bit % 2
  else 0

/-- The background's colour index at screen column `x` of the current line: the 256 x 256 plane scrolled by SCX and SCY,
wrapping (62 R412, R416). -/
def backgroundColor (mem : Memory) (p : Ppu) (x : Nat) : Nat :=
  let col := (p.scx.toNat + x) % 256
  let y := (p.ly.toNat + p.scy.toNat) % 256
  tileColor mem p ((if p.lcdc.getLsbD 3 = true then 0x9C00 else 0x9800) + 32 * (y / 8) + col / 8) (y % 8) (7 - col % 8)

/-- The window's colour index `x` columns right of its left edge, on its own row LY - WY (62 R412). -/
def windowColor (mem : Memory) (p : Ppu) (x : Nat) : Nat :=
  let y := p.ly.toNat - p.wy.toNat
  tileColor mem p ((if p.lcdc.getLsbD 6 = true then 0x9C00 else 0x9800) + 32 * (y / 8) + x / 8) (y % 8) (7 - x % 8)

/-- The window shows on the current line: enabled, LY reaches WY, and its left edge WX - 7 is on the screen
(62 R420, R421). -/
def windowOnLine (p : Ppu) : Bool :=
  p.lcdc.getLsbD 5 && decide (p.wy.toNat ≤ p.ly.toNat) && decide (7 ≤ p.wx.toNat) && decide (p.wx.toNat ≤ 166)

/-- The shade at screen column `x` of a line without sprites: the window from its left edge on where it shows, else the
background, through BGP (62 R430). -/
def lineShade (mem : Memory) (p : Ppu) (x : Nat) : Byte :=
  let c :=
    if windowOnLine p = true ∧ p.wx.toNat ≤ x + 7 then windowColor mem p (x + 7 - p.wx.toNat)
    else backgroundColor mem p x
  BitVec.ofNat 8 (p.bgp.toNat / 4 ^ c % 4)

/-- The length in clocks of mode 3 on a line without sprites: 176, one more for each pixel of fine scroll, 17 more where
the window starts; a window at the left screen edge starts before any pixel is discarded (62 R403, R421). -/
def lineLength (p : Ppu) : Nat :=
  if windowOnLine p = true then (if p.wx.toNat = 7 then 0 else p.scx.toNat % 8) + 193 else 176 + p.scx.toNat % 8

/-- The window starts at the pixel about to be output, if one can be: enabled, not begun on this line, LY has reached WY,
LX is WX - 7 (62 R420). -/
abbrev windowStartsAt (p : Ppu) : Prop :=
  p.lcdc.getLsbD 5 = true ∧ p.line.inWindow = false ∧ p.wy.toNat ≤ p.ly.toNat ∧ p.line.lx + 7 = p.wx.toNat

/-- A pixel's shade: two bits of OBP0 or OBP1 for a sprite pixel, of BGP for any other (62 R430). -/
def pixelShade (p : Ppu) (px : Pixel) : Byte :=
  let pal := if px.sourceKind = .sprite then (if px.paletteSelect = true then p.obp1 else p.obp0) else p.bgp
  BitVec.ofNat 8 (pal.toNat / 4 ^ px.colorIndex.toNat % 4)

/-- One clock of mode 3, and nothing once it has ended (62 R389). -/
def transferClock (mem : Memory) (sfc : Nat) (p : Ppu) : Ppu :=
  if p.mode = .transfer then p.mode3Clock mem sfc else p

/-! ## Results in plain arithmetic -/

/-- The result and the carry out (0 or 1) of a rotate or shift on the number `v` with carry in `c` (46 R251 to R266):
rotations of 8 bits or of 9 with the carry, doubling, halving, and the exchange of the nibbles. -/
def shiftArith : ShiftOp → Nat → Nat → Nat × Nat
  | .rlc, v, _ => ((2 * v + v / 128) % 256, v / 128)
  | .rrc, v, _ => (v / 2 + 128 * (v % 2), v % 2)
  | .rl, v, c => ((2 * v + c) % 256, v / 128)
  | .rr, v, c => (v / 2 + 128 * c, v % 2)
  | .sla, v, _ => (2 * v % 256, v / 128)
  | .sra, v, _ => (v / 2 + 128 * (v / 128), v % 2)
  | .swap, v, _ => (16 * (v % 16) + v / 16, 0)
  | .srl, v, _ => (v / 2, v % 2)

/-- The two decimal digits of `n` as a packed BCD byte. -/
def bcd (n : Nat) : Byte := BitVec.ofNat 8 (16 * (n / 10 % 10) + n % 10)

/-- The state with a 16-bit value pushed by the router: high byte at SP - 1, then low byte at SP - 2, SP two lower (00 R9,
20 R75). -/
def pushedState (v : Word) (s : State) : State :=
  { busWrite (s.sp - 2) (loByte v) (busWrite (s.sp - 1) (hiByte v) s) with sp := s.sp - 2 }

/-- The 16-bit value that two router reads at SP and SP + 1 find, low byte first (00 R9, 20 R75). -/
def stackTop (s : State) : Word :=
  (busRead (s.sp + 1) (busRead s.sp s).2).1 ++ (busRead s.sp s).1

/-! ## Running for a number of clocks (40 R131) -/

/-- "Call `RunOne` repeatedly until the sum of the returned totals is at least N", in at most `fuel` calls; every call
returns at least 4 clocks, so fuel `n` always suffices (40 R131, R128). -/
def runClocks : Nat → Nat → State → Out
  | 0, _, s => .next s
  | fuel + 1, n, s =>
    if n = 0 then .next s
    else match step s with
      | .next t => runClocks fuel (n - t.clocks) t
      | .fault r => .fault r
      | .refused r => .refused r

end Sys2Proof.Machine
end

