-- ==== Sys2Proof/Certificates/Slice0/Obligations.lean ====
section
/-! DEFINITION. The statements for the provers, each from the rules of spec/ that its docstring names. -/

section Statements

open Sys2Proof Sys2Proof.Machine

/-! ## Encoding -/

/-- Words written out bit by bit from the encodings of files 41 to 48, one or more of each family, decode to the
instructions they stand for (30 R110, R111). -/
def Obligations.DecodeOfWordsWrittenOut : Prop :=
  decodeBytes [0b01000001] = .ok (.ldBC, [])
  ∧ decodeBytes [0b11101010, 0x00, 0xC0] = .ok (.ldAtImm16A 0xC000, [])
  ∧ decodeBytes [0b11110101, 0x99] = .ok (.pushAf, [0x99])
  ∧ decodeBytes [0b00110001, 0xFE, 0xFF] = .ok (.ldSpImm16 0xFFFE, [])
  ∧ decodeBytes [0b11000110, 0x01] = .ok (.addAImm8 0x01, [])
  ∧ decodeBytes [0b00110100] = .ok (.incAtHl, [])
  ∧ decodeBytes [0b00111001] = .ok (.addHlSp, [])
  ∧ decodeBytes [0b00100111] = .ok (.daa, [])
  ∧ decodeBytes [0b11001011, 0b00110111] = .ok (.swapA, [])
  ∧ decodeBytes [0b11001011, 0b01111110] = .ok (.bit7AtHl, [])
  ∧ decodeBytes [0b11001011, 0b10000110] = .ok (.res0AtHl, [])
  ∧ decodeBytes [0b11001011, 0b11100000] = .ok (.set4B, [])
  ∧ decodeBytes [0b00100000, 0xFB] = .ok (.jrNZRel 0xFB, [])
  ∧ decodeBytes [0b11001101, 0x34, 0x12] = .ok (.callImm16 0x1234, [])
  ∧ decodeBytes [0b11101111] = .ok (.rst28, [])
  ∧ decodeBytes [0b01110110] = .ok (.halt, [])

/-- The regular parts of the opcode map as field formulas: register, pair and condition numbers, operation numbers and
bit numbers stand where the rules say (30 R104 to R107, R110, R111). -/
def Obligations.FieldsSelectOperands : Prop :=
  ∀ (b1 b2 : Byte),
    let op (k : Nat) : Instr := decodeInstr (BitVec.ofNat 8 k) b1 b2
    let cb (k : Nat) : Instr := decodeInstr 0xCB (BitVec.ofNat 8 k) b2
    (∀ dst src : R8, op (0x40 + 8 * R8.code dst + R8.code src) = Form.ldReg dst src)
    ∧ (∀ r : R8, op (0x06 + 8 * R8.code r) = Form.ldImm r b1 ∧ op (0x46 + 8 * R8.code r) = Form.ldFromHl r
        ∧ op (0x70 + R8.code r) = Form.ldToHl r ∧ op (0x04 + 8 * R8.code r) = Form.incReg r
        ∧ op (0x05 + 8 * R8.code r) = Form.decReg r)
    ∧ (∀ (o : AluOp) (r : R8), op (0x80 + 8 * AluOp.code o + R8.code r) = Form.alu o (.reg r))
    ∧ (∀ o : AluOp, op (0x86 + 8 * AluOp.code o) = Form.alu o .atHl ∧ op (0xC6 + 8 * AluOp.code o) = Form.alu o (.imm b1))
    ∧ (∀ p : R16, op (0x01 + 16 * R16.code p) = Form.ldPair p (b2 ++ b1) ∧ op (0x09 + 16 * R16.code p) = Form.addHl p
        ∧ op (0x03 + 16 * R16.code p) = Form.incPair p ∧ op (0x0B + 16 * R16.code p) = Form.decPair p)
    ∧ (∀ p : R16Stack, op (0xC5 + 16 * R16Stack.code p) = Form.push p ∧ op (0xC1 + 16 * R16Stack.code p) = Form.pop p)
    ∧ (∀ cc : Cond, op (0xC2 + 8 * Cond.code cc) = Form.jpIf cc (b2 ++ b1) ∧ op (0x20 + 8 * Cond.code cc) = Form.jrIf cc b1
        ∧ op (0xC4 + 8 * Cond.code cc) = Form.callIf cc (b2 ++ b1) ∧ op (0xC0 + 8 * Cond.code cc) = Form.retIf cc)
    ∧ (∀ t : Fin 8, op (0xC7 + 8 * t.val) = Form.rst t)
    ∧ (∀ (o : ShiftOp) (x : Loc8), cb (8 * ShiftOp.code o + Loc8.code x) = Form.shift o x)
    ∧ (∀ (b : Fin 8) (x : Loc8), cb (0x40 + 8 * b.val + Loc8.code x) = Form.bit b x
        ∧ cb (0x80 + 8 * b.val + Loc8.code x) = Form.res b x ∧ cb (0xC0 + 8 * b.val + Loc8.code x) = Form.set b x)

/-- Decoding the encoding of any whole instruction, followed by any bytes, gives it back with those bytes left over
(30 R100, R108, R109). -/
def Obligations.DecodeInvertsEncode : Prop :=
  ∀ (i : Instr) (rest : List Byte), i.wellFormed = true → decodeBytes (i.encode ++ rest) = .ok (i, rest)

/-- Every list of bytes that holds enough bytes for its first one decodes, to a whole instruction whose encoding is the
bytes taken; the others are refused by name (30 R100, R103, R109). -/
def Obligations.EncodeInvertsDecode : Prop :=
  ∀ bs : List Byte,
    (∀ (i : Instr) (rest : List Byte), decodeBytes bs = .ok (i, rest) → i.wellFormed = true ∧ bs = i.encode ++ rest)
    ∧ (bs = [] → decodeBytes bs = .error .noByte)
    ∧ (∀ (o : Byte) (tl : List Byte), bs = o :: tl → bs.length < opLength o → decodeBytes bs = .error (.truncated o))
    ∧ (∀ (o : Byte) (tl : List Byte), bs = o :: tl → opLength o ≤ bs.length → ∃ i rest, decodeBytes bs = .ok (i, rest))

/-- The row PREFIX CB fetches a second byte and then does, in every state, what the CB entry of that byte does; it always
completes (30 R109, R111, 46 R250). -/
def Obligations.PrefixRunsItsCbEntry : Prop :=
  ∀ s : State, ∃ t : State,
    exec .prefixCb s = .next t ∧ exec (decodeCb (busRead s.pc s).1) (fetch8 s).2 = .next t
    ∧ (fetch8 s).2 = { s with pc := s.pc + 1, clocks := s.clocks + 4, draws := (fetch8 s).2.draws }

/-! ## The Step -/

/-- A step runs the decoded instruction. Where the three bytes read at PC need no free byte and begin with instruction
`i`, a step of a CPU that is not halted and has no HALT bug armed is `exec i` with PC past the instruction and 4 clocks
counted for each of its bytes, then the end of the Step; every other Step that is not halted executes what the fetch
gives, from the state that the fetch leaves, and ends the same way. A halted step is one machine cycle and the end of the
Step. The end of every Step is the interrupt dispatch with the IME of the Step's beginning and then the hand-off, which
advances the timer, then the PPU, then the DMA count by the Step's clocks; with no interrupt pending it is the hand-off
alone (40 R125, R126, R127, 60 R321). -/
def Obligations.StepRunsTheDecodedInstruction : Prop :=
  ∀ s : State,
    (∀ (i : Instr) (rest : List Byte), s.halt = false → s.haltBug = false →
      (∀ j < 3, (busRead (s.pc + BitVec.ofNat 16 j) s).2 = s) →
      decodeBytes ((List.range 3).map fun j => (busRead (s.pc + BitVec.ofNat 16 j) s).1) = .ok (i, rest) →
      step s =
        match exec i { s with
            pc := s.pc + BitVec.ofNat 16 i.encode.length, clocks := 4 * i.encode.length, opcodePc := s.pc } with
        | .next t => .next (endStep s.ime t)
        | .fault r => .fault r
        | .refused r => .refused r)
    ∧ (s.halt = true → step s = .next (endStep s.ime { s with clocks := 4 }))
    ∧ (s.halt = false →
      step s =
        match exec (fetchInstr { s with clocks := 0 }).1 (fetchInstr { s with clocks := 0 }).2 with
        | .next t => .next (endStep s.ime t)
        | .fault r => .fault r
        | .refused r => .refused r)
    ∧ (∀ (b : Bool) (t : State), endStep b t = handOff (interruptDispatch b t))
    ∧ (∀ (b : Bool) (t : State), pendingInterrupts t = 0 → endStep b t = handOff t)
    ∧ (∀ t : State,
      handOff t = { ppuCatchUp t.clocks (timerTick t.clocks t) with dmaBusy := t.dmaBusy - t.clocks })

/-- The fetch: the opcode at PC and then as many bytes as it says, in stream order, 4 clocks each; an armed HALT bug keeps
PC where it is for the opcode fetch alone and is cleared by it, so that the first byte after the opcode is then the opcode
byte again; nothing else changes. The recorded opcode address is the model's own field (log 5), and so is the order in which
free bytes are drawn (log 15) (40 R126, 30 R103, R108, R109). -/
def Obligations.FetchTakesTheWholeInstruction : Prop :=
  ∀ s : State,
    let o := busRead s.pc s
    let pc1 := s.pc + (if s.haltBug = true then 0 else 1)
    let b1 := busRead pc1 o.2
    let b2 := busRead (pc1 + 1) b1.2
    let n := opLength o.1
    (fetchInstr s).1 = decodeInstr o.1 (if n = 1 then 0 else b1.1) (if n = 3 then b2.1 else 0)
    ∧ (fetchInstr s).2 =
      { s with
        pc := pc1 + BitVec.ofNat 16 (n - 1)
        haltBug := false
        clocks := s.clocks + 4 * n
        opcodePc := s.pc
        draws := (if n = 1 then o.2 else if n = 2 then b1.2 else b2.2).draws }

/-- Every Step's total is a multiple of 4, at least 4 and at most 44 (40 R128). -/
def Obligations.StepTotalIsMultipleOfFour : Prop :=
  ∀ s t : State, step s = .next t → t.clocks % 4 = 0 ∧ 4 ≤ t.clocks ∧ t.clocks ≤ 44

/-- The interrupt dispatch of a Step sees the IME of the Step's beginning: where it was false the Step ends without a
dispatch, whatever the instruction did to IME, and at most ends a halt (60 R321, R323). -/
def Obligations.DispatchUsesImeOfEntry : Prop :=
  ∀ s : State, s.ime = false → s.halt = false →
    step s =
      match exec (fetchInstr { s with clocks := 0 }).1 (fetchInstr { s with clocks := 0 }).2 with
      | .next u => .next (handOff (if pendingInterrupts u = 0 then u else { u with halt := false }))
      | .fault r => .fault r
      | .refused r => .refused r

/-! ## Interrupts, IME, HALT, stops -/

/-- With IME set and an interrupt pending the lowest-numbered pending one is taken: its request and IME are cleared, the
halt ends, PC goes on the stack high byte first, PC becomes `0x0040 + 8 n`, 20 clocks pass; nothing else changes but what
the two stores write (60 R321, R324, R325). -/
def Obligations.DispatchTakesLowestPending : Prop :=
  ∀ s : State, pendingInterrupts s ≠ 0 →
    ∃ n : Nat, n < 5 ∧ (s.ie.getLsbD n && s.ifr.getLsbD n) = true
      ∧ (∀ m < n, (s.ie.getLsbD m && s.ifr.getLsbD m) = false)
      ∧ let s0 := { s with ime := false, halt := false, ifr := s.ifr &&& ~~~(1#5 <<< n) }
        let t := interruptDispatch true s
        t = { pushedState s.pc s0 with pc := BitVec.ofNat 16 (0x0040 + 8 * n), clocks := s.clocks + 20 }
        ∧ StoreFrame [s.sp - 1, s.sp - 2] { s0 with pc := t.pc, sp := t.sp } t

/-- The wake-up test: `halt` is cleared exactly when an interrupt is pending, under the mask 0x1F, whether or not a
dispatch follows; without a dispatch nothing else changes (60 R322). -/
def Obligations.HaltEndsExactlyWhenPending : Prop :=
  ∀ (b : Bool) (s : State),
    (interruptDispatch b s).halt = (if s.ie.toNat % 32 &&& s.ifr.toNat = 0 then s.halt else false)
    ∧ (s.ie.toNat % 32 &&& s.ifr.toNat = 0 → interruptDispatch b s = s)
    ∧ interruptDispatch false s = { s with halt := (interruptDispatch false s).halt }

/-- Of all instructions only EI, DI and RETI change IME, and only HALT changes `halt` or `haltBug`; none changes the
parameters or the recorded fetch address (48 R303, R304, 10 R22, R23). -/
def Obligations.OnlyNamedInstructionsWriteImeAndHalt : Prop :=
  ∀ (i : Instr) (s t : State), exec i s = .next t →
    (t.ime ≠ s.ime → i = .ei ∨ i = .di ∨ i = .reti)
    ∧ (t.halt ≠ s.halt ∨ t.haltBug ≠ s.haltBug → i = .halt)
    ∧ t.cartRamPresent = s.cartRamPresent ∧ t.spriteFetchClocks = s.spriteFetchClocks
    ∧ t.bootRom = s.bootRom ∧ t.opcodePc = s.opcodePc

/-- NOP changes nothing, DI clears IME, EI sets it, HALT halts where IME is set or nothing is pending and otherwise arms
the HALT bug (48 R300, R301, R302, R304). -/
def Obligations.SystemInstructionResults : Prop :=
  ∀ s : State,
    exec .nop s = .next s
    ∧ exec .di s = .next { s with ime := false }
    ∧ exec .ei s = .next { s with ime := true }
    ∧ (s.ime = true → exec .halt s = .next { s with halt := true })
    ∧ (s.ime = false → s.ie.toNat % 32 &&& s.ifr.toNat = 0 → exec .halt s = .next { s with halt := true })
    ∧ (s.ime = false → s.ie.toNat % 32 &&& s.ifr.toNat ≠ 0 → exec .halt s = .next { s with haltBug := true })

/-- The eleven opcodes with no instruction: each decodes as one byte, its execution is the fault IllegalOpcode, and a
step that fetches it faults with the opcode and the address it was fetched from (48 R306). -/
def Obligations.OpcodesWithNoInstructionFault : Prop :=
  ∀ (i : Instr) (o : Byte), (i, o) ∈ Form.illegal →
    (∀ rest : List Byte, decodeBytes (o :: rest) = .ok (i, rest))
    ∧ ∀ s : State,
      exec i s = .fault (.illegalOpcode o s.opcodePc)
      ∧ (s.halt = false → (busRead s.pc s).1 = o → step s = .fault (.illegalOpcode o s.pc))

/-- STOP, whatever its second byte, is refused, and so is a step that fetches the opcode 0x10 (48 R305). -/
def Obligations.StopIsRefused : Prop :=
  (∀ (n : Byte) (rest : List Byte), decodeBytes (0x10 :: n :: rest) = .ok (.stop n, rest))
  ∧ ∀ s : State,
    (∀ n : Byte, exec (.stop n) s = .refused .stop)
    ∧ (s.halt = false → (busRead s.pc s).1 = 0x10 → step s = .refused .stop)

/-! ## 8-bit loads -/

/-- `LD r,r'` and `LD r,n`: the destination register takes the value and nothing else changes (41 R140, R141). -/
def Obligations.RegisterLoadResults : Prop :=
  ∀ (dst src : R8) (n : Byte) (s : State),
    exec (Form.ldReg dst src) s = .next { s with regs := s.regs.set dst (s.regs.get src) }
    ∧ exec (Form.ldImm dst n) s = .next { s with regs := s.regs.set dst n }
    ∧ ∀ (g : Regs) (v : Byte) (r : R8),
      (g.set dst v).get r = (if r = dst then v else g.get r) ∧ (g.set dst v).f = g.f

/-- The loads from memory: the register takes the byte the router reads at the form's address; the HL+ and HL- forms step
HL; 4 clocks; nothing else changes (41 R142, R145, R146, R149, R153, R155, R158, R160). -/
def Obligations.MemoryLoadResults : Prop :=
  ∀ (dst : R8) (m : AForm) (s : State),
    (∃ t, exec (Form.ldFromHl dst) s = .next t
      ∧ t = { s with
          regs := s.regs.set dst (busRead (getHl s) s).1, clocks := s.clocks + 4, draws := t.draws })
    ∧ (∃ t, exec (Form.loadA m) s = .next t
      ∧ t = { s with
          regs := { s.regs with
            a := (busRead (m.address s) s).1
            h := hiByte (getHl s + m.hlStep)
            l := loByte (getHl s + m.hlStep) }
          clocks := s.clocks + 4, draws := t.draws })

/-- The stores to memory: the router writes the byte at the form's address; the HL+ and HL- forms step HL; 4 clocks;
nothing else changes (41 R143, R144, R147, R148, R150, R154, R156, R157, R159). -/
def Obligations.MemoryStoreResults : Prop :=
  ∀ (src : R8) (n : Byte) (m : AForm) (s : State),
    (∃ t, exec (Form.ldToHl src) s = .next t
      ∧ t = { busWrite (getHl s) (s.regs.get src) s with clocks := s.clocks + 4 } ∧ StoreFrame [getHl s] s t)
    ∧ (∃ t, exec (.ldAtHlImm8 n) s = .next t
      ∧ t = { busWrite (getHl s) n s with clocks := s.clocks + 4 } ∧ StoreFrame [getHl s] s t)
    ∧ (∃ t, exec (Form.storeA m) s = .next t
      ∧ t = { busWrite (m.address s) s.regs.a s with
          regs := { s.regs with h := hiByte (getHl s + m.hlStep), l := loByte (getHl s + m.hlStep) }
          clocks := s.clocks + 4 }
      ∧ StoreFrame [m.address s] { s with regs := t.regs } t)

/-! ## 16-bit loads and the stack -/

/-- `LD rr,nn` gives the pair or SP the value and keeps every other pair, A and F; `LD SP,HL` copies HL in 4 more clocks
(42 R170, R172). -/
def Obligations.PairLoadResults : Prop :=
  ∀ (p : R16) (nn : Word) (s : State),
    (∃ t, exec (Form.ldPair p nn) s = .next t
      ∧ (∀ q, getR16 q t = if q = p then nn else getR16 q s)
      ∧ t.regs.a = s.regs.a ∧ t.regs.f = s.regs.f ∧ t = { s with regs := t.regs, sp := t.sp })
    ∧ exec .ldSpHl s = .next { s with sp := getHl s, clocks := s.clocks + 4 }

/-- The two-byte stores: `LD (nn),SP` writes the low byte at nn and then the high byte at nn + 1; `PUSH rr` writes the
high byte at SP - 1 and then the low byte at SP - 2 and leaves SP two lower (42 R171, R175). -/
def Obligations.TwoByteStoreResults : Prop :=
  ∀ (nn : Word) (p : R16Stack) (s : State),
    (∃ t, exec (.ldAtImm16Sp nn) s = .next t
      ∧ t = { busWrite (nn + 1) (hiByte s.sp) (busWrite nn (loByte s.sp) s) with clocks := s.clocks + 8 }
      ∧ StoreFrame [nn, nn + 1] s t)
    ∧ (∃ t, exec (Form.push p) s = .next t
      ∧ t = { pushedState (getR16Stack p s) s with clocks := s.clocks + 12 }
      ∧ StoreFrame [s.sp - 1, s.sp - 2] { s with sp := t.sp } t)

/-- `POP rr` takes the low byte at SP and the high byte at SP + 1 and leaves SP two higher; POP AF drops bits 3..0 of the
low byte; no other pair and nothing else changes (42 R176, 10 R15). -/
def Obligations.PopResults : Prop :=
  ∀ (p : R16Stack) (s : State),
    ∃ t, exec (Form.pop p) s = .next t
      ∧ (∀ q, getR16Stack q t =
          if q = p then (if p = .af then stackTop s &&& 0xFFF0 else stackTop s) else getR16Stack q s)
      ∧ t.sp = s.sp + 2 ∧ t.clocks = s.clocks + 8 ∧ RegsOnly s t

/-- `PUSH rr` then `POP rr` restores the pair and SP, where both stack bytes are plain memory that is not blocked, in every
state with bits 3..0 of F zero (42 R176). -/
def Obligations.PushThenPopRestores : Prop :=
  ∀ (p : R16Stack) (s : State), s.regs.f.extractLsb' 0 4 = 0 → s.mem.wf →
    storesByte s (s.sp - 1) = true → storesByte s (s.sp - 2) = true →
    ∃ t u, exec (Form.push p) s = .next t ∧ exec (Form.pop p) t = .next u
      ∧ u = { s with mem := t.mem, clocks := s.clocks + 20 }
      ∧ (∀ k, k ≠ homeKey (s.sp - 1) → k ≠ homeKey (s.sp - 2) → t.mem.read k = s.mem.read k)

/-! ## 8-bit arithmetic and logic -/

/-- ADD and ADC, register, (HL) and immediate: A is the sum modulo 256, H the carry out of bit 3 and C out of bit 7,
the carry in counted for ADC alone; nothing else changes (43 R185, R186). -/
def Obligations.AddAndAdcResults : Prop :=
  ∀ (op : AluOp) (x : Src8) (s : State), op = .add ∨ op = .adc →
    let a := s.regs.a.toNat
    let v := (x.value s).toNat
    let c := if op = .adc ∧ flagC s = true then 1 else 0
    ∃ t, exec (Form.alu op x) s = .next t
      ∧ t.regs.a.toNat = (a + v + c) % 256
      ∧ FlagsAre t.regs.f (decide ((a + v + c) % 256 = 0)) false (decide (a % 16 + v % 16 + c > 15))
          (decide (a + v + c > 255))
      ∧ t = { s with
          regs := { s.regs with a := t.regs.a, f := t.regs.f }, clocks := s.clocks + x.clocks, draws := t.draws }

/-- SUB, SBC and CP, register, (HL) and immediate: the difference modulo 256, H the borrow from bit 4 and C the borrow
out of bit 7, the carry in counted for SBC alone; CP keeps A; nothing else changes (43 R187, R188, R192). -/
def Obligations.SubSbcAndCpResults : Prop :=
  ∀ (op : AluOp) (x : Src8) (s : State), op = .sub ∨ op = .sbc ∨ op = .cp →
    let a := s.regs.a.toNat
    let v := (x.value s).toNat
    let c := if op = .sbc ∧ flagC s = true then 1 else 0
    ∃ t, exec (Form.alu op x) s = .next t
      ∧ t.regs.a.toNat = (if op = .cp then a else (a + 512 - v - c) % 256)
      ∧ FlagsAre t.regs.f (decide ((a + 512 - v - c) % 256 = 0)) true (decide (a % 16 < v % 16 + c))
          (decide (a < v + c))
      ∧ t = { s with
          regs := { s.regs with a := t.regs.a, f := t.regs.f }, clocks := s.clocks + x.clocks, draws := t.draws }

/-- AND, XOR and OR, register, (HL) and immediate: bit by bit, Z from the result, N and C clear, H set by AND alone; nothing
else changes (43 R189, R190, R191). -/
def Obligations.AndXorAndOrResults : Prop :=
  ∀ (op : AluOp) (x : Src8) (s : State), op = .and ∨ op = .xor ∨ op = .or →
    ∃ t, exec (Form.alu op x) s = .next t
      ∧ (∀ j < 8, t.regs.a.getLsbD j =
          if op = .and then s.regs.a.getLsbD j && (x.value s).getLsbD j
          else if op = .xor then s.regs.a.getLsbD j ^^ (x.value s).getLsbD j
          else s.regs.a.getLsbD j || (x.value s).getLsbD j)
      ∧ FlagsAre t.regs.f (decide (t.regs.a = 0)) false (decide (op = .and)) false
      ∧ t = { s with
          regs := { s.regs with a := t.regs.a, f := t.regs.f }, clocks := s.clocks + x.clocks, draws := t.draws }

/-- `INC r` and `DEC r`: the register modulo 256, Z from the result, H from the low nibble, C kept; nothing else changes
(43 R217, R219). -/
def Obligations.RegisterIncDecResults : Prop :=
  ∀ (r : R8) (s : State),
    let v := (s.regs.get r).toNat
    (∃ t, exec (Form.incReg r) s = .next t
      ∧ (t.regs.get r).toNat = (v + 1) % 256
      ∧ FlagsAre t.regs.f (decide (v = 255)) false (decide (v % 16 = 15)) (flagC s)
      ∧ t = { s with regs := { s.regs.set r (t.regs.get r) with f := t.regs.f } })
    ∧ (∃ t, exec (Form.decReg r) s = .next t
      ∧ (t.regs.get r).toNat = (v + 255) % 256
      ∧ FlagsAre t.regs.f (decide (v = 1)) true (decide (v % 16 = 0)) (flagC s)
      ∧ t = { s with regs := { s.regs.set r (t.regs.get r) with f := t.regs.f } })

/-- `INC (HL)` and `DEC (HL)`: the byte read at HL, one more or less modulo 256, is written at HL; flags as for registers;
8 clocks; nothing else changes (43 R218, R220). -/
def Obligations.MemoryIncDecResults : Prop :=
  ∀ s : State,
    let r := busRead (getHl s) s
    (∃ t, exec .incAtHl s = .next t
      ∧ FlagsAre t.regs.f (decide (r.1.toNat = 255)) false (decide (r.1.toNat % 16 = 15)) (flagC s)
      ∧ t = { busWrite (getHl s) (r.1 + 1) r.2 with
          regs := { s.regs with f := t.regs.f }, clocks := s.clocks + 8 }
      ∧ StoreFrame [getHl s] { r.2 with regs := t.regs } t)
    ∧ (∃ t, exec .decAtHl s = .next t
      ∧ FlagsAre t.regs.f (decide (r.1.toNat = 1)) true (decide (r.1.toNat % 16 = 0)) (flagC s)
      ∧ t = { busWrite (getHl s) (r.1 - 1) r.2 with
          regs := { s.regs with f := t.regs.f }, clocks := s.clocks + 8 }
      ∧ StoreFrame [getHl s] { r.2 with regs := t.regs } t)

/-! ## 16-bit arithmetic -/

/-- `ADD HL,rr`: the sum modulo 65536, Z kept, H the carry out of bit 11 and C out of bit 15; 4 clocks; nothing else changes
(44 R225). -/
def Obligations.AddHlResults : Prop :=
  ∀ (p : R16) (s : State),
    let a := (getHl s).toNat
    let b := (getR16 p s).toNat
    ∃ t, exec (Form.addHl p) s = .next t
      ∧ (getHl t).toNat = (a + b) % 65536
      ∧ FlagsAre t.regs.f (flagZ s) false (decide (a % 4096 + b % 4096 > 4095)) (decide (a + b > 65535))
      ∧ t = { s with
          regs := { s.regs with h := t.regs.h, l := t.regs.l, f := t.regs.f }, clocks := s.clocks + 4 }

/-- `INC rr` and `DEC rr`: the pair or SP modulo 65536, no flag, 4 clocks; no other register and nothing else changes (44
R226, R227). -/
def Obligations.PairIncDecResults : Prop :=
  ∀ (p : R16) (s : State),
    (∃ t, exec (Form.incPair p) s = .next t
      ∧ (∀ q, (getR16 q t).toNat = if q = p then ((getR16 q s).toNat + 1) % 65536 else (getR16 q s).toNat)
      ∧ t.regs.a = s.regs.a ∧ t.regs.f = s.regs.f
      ∧ t = { s with regs := t.regs, sp := t.sp, clocks := s.clocks + 4 })
    ∧ (∃ t, exec (Form.decPair p) s = .next t
      ∧ (∀ q, (getR16 q t).toNat = if q = p then ((getR16 q s).toNat + 65535) % 65536 else (getR16 q s).toNat)
      ∧ t.regs.a = s.regs.a ∧ t.regs.f = s.regs.f
      ∧ t = { s with regs := t.regs, sp := t.sp, clocks := s.clocks + 4 })

/-- `ADD SP,e` and `LD HL,SP+e`: SP plus the signed displacement modulo 65536; Z and N clear; H and C from the unsigned
addition of the low byte of SP and the byte e; nothing else changes (44 R228, R229). -/
def Obligations.StackPointerPlusDisplacementResults : Prop :=
  ∀ (e : Byte) (s : State),
    let sum : Int := (s.sp.toNat + e.toInt) % 65536
    let h := decide (s.sp.toNat % 16 + e.toNat % 16 > 15)
    let c := decide (s.sp.toNat % 256 + e.toNat > 255)
    (∃ t, exec (.addSpRel e) s = .next t
      ∧ (t.sp.toNat : Int) = sum ∧ FlagsAre t.regs.f false false h c
      ∧ t = { s with sp := t.sp, regs := { s.regs with f := t.regs.f }, clocks := s.clocks + 8 })
    ∧ (∃ t, exec (.ldHlSpRel e) s = .next t
      ∧ ((getHl t).toNat : Int) = sum ∧ FlagsAre t.regs.f false false h c
      ∧ t = { s with
          regs := { s.regs with h := t.regs.h, l := t.regs.l, f := t.regs.f }, clocks := s.clocks + 4 })

/-! ## Accumulator rotates, DAA, CPL, SCF, CCF -/

/-- RLCA, RRCA, RLA, RRA: A as the CB rotation gives it, C the bit rotated out, Z, N and H clear whatever the result;
nothing else changes (45 R235 to R238). -/
def Obligations.AccumulatorRotateResults : Prop :=
  ∀ (i : Instr) (op : ShiftOp) (s : State),
    (i, op) ∈ [(Instr.rlca, ShiftOp.rlc), (.rrca, .rrc), (.rla, .rl), (.rra, .rr)] →
    let r := shiftArith op s.regs.a.toNat (if flagC s = true then 1 else 0)
    ∃ t, exec i s = .next t
      ∧ t.regs.a.toNat = r.1 ∧ FlagsAre t.regs.f false false false (decide (r.2 = 1))
      ∧ t = { s with regs := { s.regs with a := t.regs.a, f := t.regs.f } }

/-- DAA: 0x06 and 0x60 are added, or after a subtraction subtracted, by H, C and the value of A before any adjustment; N
kept, H clear, C never cleared; nothing else changes (45 R239). -/
def Obligations.DaaResult : Prop :=
  ∀ s : State,
    let a := s.regs.a.toNat
    let low := if flagH s = true ∨ (flagN s = false ∧ a % 16 > 9) then 0x06 else 0
    let high := if flagC s = true ∨ (flagN s = false ∧ a > 0x99) then 0x60 else 0
    ∃ t, exec .daa s = .next t
      ∧ t.regs.a.toNat = (if flagN s = true then a + 256 - (low + high) else a + (low + high)) % 256
      ∧ FlagsAre t.regs.f (decide (t.regs.a = 0)) (flagN s) false (decide (high = 0x60))
      ∧ t = { s with regs := { s.regs with a := t.regs.a, f := t.regs.f } }

/-- DAA is decimal adjustment: after ADC or SBC of two packed decimal bytes, with either carry in, A holds the two decimal
digits of the sum or difference modulo 100 and C the decimal carry or borrow (45 R239, 43 R186, R188). -/
def Obligations.DaaAfterDecimalArithmetic : Prop :=
  ∀ (x y : Nat) (c : Bool) (s : State), x < 100 → y < 100 →
    let k := if c = true then 1 else 0
    let sum := adc8 (bcd x) (bcd y) c
    let dif := sbc8 (bcd x) (bcd y) c
    (∃ t, exec .daa { s with regs := { s.regs with a := sum.1, f := sum.2 } } = .next t
      ∧ t.regs.a = bcd ((x + y + k) % 100) ∧ flagC t = decide (x + y + k ≥ 100))
    ∧ (∃ t, exec .daa { s with regs := { s.regs with a := dif.1, f := dif.2 } } = .next t
      ∧ t.regs.a = bcd ((x + 200 - y - k) % 100) ∧ flagC t = decide (x < y + k))

/-- CPL complements A and sets N and H; SCF sets C and CCF complements it, both clearing N and H; Z and all else kept
(45 R240, R241, R242). -/
def Obligations.ComplementAndCarryResults : Prop :=
  ∀ s : State,
    (∃ t, exec .cpl s = .next t
      ∧ t.regs.a.toNat = 255 - s.regs.a.toNat ∧ FlagsAre t.regs.f (flagZ s) true true (flagC s)
      ∧ t = { s with regs := { s.regs with a := t.regs.a, f := t.regs.f } })
    ∧ (∃ t, exec .scf s = .next t
      ∧ FlagsAre t.regs.f (flagZ s) false false true ∧ t = { s with regs := { s.regs with f := t.regs.f } })
    ∧ (∃ t, exec .ccf s = .next t
      ∧ FlagsAre t.regs.f (flagZ s) false false (!flagC s) ∧ t = { s with regs := { s.regs with f := t.regs.f } })

/-! ## CB instructions -/

/-- The 64 rotates, shifts and SWAPs: the operand as plain arithmetic gives it, written to the register or, always, at HL;
Z from the result, N and H clear, C the bit shifted out; nothing else changes (46 R250 to R266). -/
def Obligations.RotateAndShiftResults : Prop :=
  ∀ (op : ShiftOp) (x : Loc8) (s : State),
    let r := shiftArith op (x.value s).toNat (if flagC s = true then 1 else 0)
    let w := BitVec.ofNat 8 r.1
    ∃ t, exec (Form.shift op x) s = .next t
      ∧ FlagsAre t.regs.f (decide (r.1 = 0)) false false (decide (r.2 = 1))
      ∧ match x with
        | .reg q => t = { s with regs := { s.regs.set q w with f := t.regs.f } }
        | .atHl =>
          t = { busWrite (getHl s) w (busRead (getHl s) s).2 with
              regs := { s.regs with f := t.regs.f }, clocks := s.clocks + 8 }
          ∧ StoreFrame [getHl s] { (busRead (getHl s) s).2 with regs := t.regs } t

/-- BIT: Z is the complement of the bit, N clear, H set, C kept; the operand is not written; nothing else changes (46 R267,
R268). -/
def Obligations.BitTestResults : Prop :=
  ∀ (b : Fin 8) (x : Loc8) (s : State),
    ∃ t, exec (Form.bit b x) s = .next t
      ∧ FlagsAre t.regs.f (decide ((x.value s).toNat / 2 ^ b.val % 2 = 0)) false true (flagC s)
      ∧ t = { s with
          regs := { s.regs with f := t.regs.f }
          clocks := s.clocks + (if x = .atHl then 4 else 0)
          draws := t.draws }

/-- RES and SET: the operand with one bit cleared or set, written to the register or, always, at HL; no flag; nothing else
changes (46 R269 to R272). -/
def Obligations.ResAndSetResults : Prop :=
  ∀ (b : Fin 8) (x : Loc8) (up : Bool) (s : State),
    ∃ (t : State) (w : Byte), exec (if up = true then Form.set b x else Form.res b x) s = .next t
      ∧ (∀ j < 8, w.getLsbD j = if j = b.val then up else (x.value s).getLsbD j)
      ∧ match x with
        | .reg q => t = { s with regs := s.regs.set q w }
        | .atHl =>
          t = { busWrite (getHl s) w (busRead (getHl s) s).2 with clocks := s.clocks + 8 }
          ∧ StoreFrame [getHl s] (busRead (getHl s) s).2 t

/-! ## Control flow -/

/-- JP and JR, conditional or not, and JP HL: PC becomes the target (for JR, PC past the instruction plus the signed
displacement modulo 65536), with 4 clocks for all but JP HL; a condition that fails changes nothing; nothing else changes
(47 R280 to R285). -/
def Obligations.JumpResults : Prop :=
  ∀ (cc : Cond) (nn : Word) (e : Byte) (s : State),
    let holds := match cc with
      | .nz => !s.regs.f.getLsbD 7
      | .z => s.regs.f.getLsbD 7
      | .nc => !s.regs.f.getLsbD 4
      | .c => s.regs.f.getLsbD 4
    exec (.jpImm16 nn) s = .next { s with pc := nn, clocks := s.clocks + 4 }
    ∧ exec (Form.jpIf cc nn) s = .next (if holds = true then { s with pc := nn, clocks := s.clocks + 4 } else s)
    ∧ exec .jpHl s = .next { s with pc := getHl s }
    ∧ ∃ target : Word, (target.toNat : Int) = (s.pc.toNat + e.toInt) % 65536
      ∧ exec (.jrRel e) s = .next { s with pc := target, clocks := s.clocks + 4 }
      ∧ exec (Form.jrIf cc e) s
        = .next (if holds = true then { s with pc := target, clocks := s.clocks + 4 } else s)

/-- CALL, conditional or not, and RST: PC goes on the stack high byte first, SP is two lower, PC becomes the target, 12
clocks; a condition that fails changes nothing; nothing else changes (47 R280, R286, R287, R291). -/
def Obligations.CallResults : Prop :=
  ∀ (cc : Cond) (nn : Word) (k : Fin 8) (s : State),
    let called (target : Word) : State := { pushedState s.pc s with pc := target, clocks := s.clocks + 12 }
    exec (.callImm16 nn) s = .next (called nn)
    ∧ exec (Form.callIf cc nn) s = .next (if condHolds cc s = true then called nn else s)
    ∧ exec (Form.rst k) s = .next (called (BitVec.ofNat 16 (8 * k.val)))
    ∧ StoreFrame [s.sp - 1, s.sp - 2] { s with pc := nn, sp := s.sp - 2 } (called nn)

/-- RET, RET cc and RETI: PC is popped low byte first, SP is two higher, 12 clocks, and 4 more for the test of RET cc,
taken or not; RETI also sets IME; nothing else changes (47 R288, R289, R290). -/
def Obligations.ReturnResults : Prop :=
  ∀ (cc : Cond) (s : State),
    ∃ drawn : Nat,
      let returned (n : Nat) : State :=
        { s with pc := stackTop s, sp := s.sp + 2, clocks := s.clocks + n, draws := drawn }
      exec .ret s = .next (returned 12)
      ∧ exec (Form.retIf cc) s
        = .next (if condHolds cc s = true then returned 16 else { s with clocks := s.clocks + 4 })
      ∧ exec .reti s = .next { returned 12 with ime := true }

/-! ## The router and the I/O registers -/

/-- The read half of the router, row by row; a read changes no state of the machine. That it may advance the count of free
bytes drawn is the model's choice, the counter being the model's own (log 4) (20 R61). -/
def Obligations.RouterReadsByRegion : Prop :=
  ∀ (a : Word) (s : State),
    busRead a s =
      (if a.toNat ≤ 0x00FF ∧ s.bootRomEnabled = true then (s.bootRom.read a.toNat, s)
       else if a.toNat ≤ 0x7FFF then (s.mem.read a.toNat, s)
       else if a.toNat ≤ 0x9FFF then (if s.ppu.mode = .transfer then 0xFF else s.mem.read a.toNat, s)
       else if a.toNat ≤ 0xBFFF then (if s.cartRamPresent = true then (s.mem.read a.toNat, s) else drawByte s)
       else if a.toNat ≤ 0xDFFF then (s.mem.read a.toNat, s)
       else if a.toNat ≤ 0xFDFF then (s.mem.read (a.toNat - 0xE000 + 0xC000), s)
       else if a.toNat ≤ 0xFE9F then
         (if s.ppu.mode = .oamSearch ∨ s.ppu.mode = .transfer then 0xFF else s.mem.read a.toNat, s)
       else if a.toNat ≤ 0xFEFF then (0x00, s)
       else if a.toNat ≤ 0xFF7F then ioRead a s
       else if a.toNat ≤ 0xFFFE then (s.mem.read a.toNat, s)
       else (s.ie, s))
    ∧ (busRead a s).2 = { s with draws := (busRead a s).2.draws }

/-- The write half of the router, row by row, and what writing a byte of memory does: it reads back at its own address and
every other address keeps its byte, and the canonical form is kept; a byte written through the mirror reads back at
either address (20 R62). -/
def Obligations.RouterWritesByRegion : Prop :=
  (∀ (a : Word) (v : Byte) (s : State),
    let stored (k : Nat) : State := { s with mem := s.mem.write k v }
    busWrite a v s =
      (if a.toNat ≤ 0x7FFF then s
       else if a.toNat ≤ 0x9FFF then (if s.ppu.mode = .transfer then s else stored a.toNat)
       else if a.toNat ≤ 0xBFFF then (if s.cartRamPresent = true then stored a.toNat else s)
       else if a.toNat ≤ 0xDFFF then stored a.toNat
       else if a.toNat ≤ 0xFDFF then stored (a.toNat - 0xE000 + 0xC000)
       else if a.toNat ≤ 0xFE9F then
         (if s.ppu.mode = .oamSearch ∨ s.ppu.mode = .transfer then s else stored a.toNat)
       else if a.toNat ≤ 0xFEFF then s
       else if a.toNat ≤ 0xFF7F then ioWrite a v s
       else if a.toNat ≤ 0xFFFE then stored a.toNat
       else { s with ie := v }))
  ∧ (∀ (m : Memory) (k j : Nat) (v : Byte), m.wf →
      (m.write k v).wf ∧ (m.write k v).read j = if j = k then v else m.read j)
  ∧ (∀ (a : Word) (v : Byte) (s : State), s.mem.wf → 0xE000 ≤ a.toNat → a.toNat ≤ 0xFDFF →
      (busRead a (busWrite a v s)).1 = v ∧ (busRead (a - 0x2000) (busWrite a v s)).1 = v
      ∧ (busRead a (busWrite (a - 0x2000) v s)).1 = v)

/-- A blocked access: video RAM in mode 3 and OAM in modes 2 and 3 read 0xFF and ignore writes, at 4 clocks each; with the
LCD off nothing is blocked; an opcode fetched from a blocked address is RST 0x38 (20 R63, 62 R390). -/
def Obligations.BlockedAccessesReadFF : Prop :=
  ∀ (a : Word) (s : State),
    (gated s a = true ↔
      (0x8000 ≤ a.toNat ∧ a.toNat ≤ 0x9FFF ∧ s.ppu.mode = .transfer)
      ∨ (0xFE00 ≤ a.toNat ∧ a.toNat ≤ 0xFE9F ∧ (s.ppu.mode = .oamSearch ∨ s.ppu.mode = .transfer)))
    ∧ (gated s a = true → memRead a s = (0xFF, { s with clocks := s.clocks + 4 })
        ∧ ∀ v, memWrite a v s = { s with clocks := s.clocks + 4 })
    ∧ (PpuInv s.ppu → s.ppu.lcdOn = false → gated s a = false)
    ∧ (s.halt = false → gated s s.pc = true → (fetchInstr s).1 = .rst38)

/-- The unmapped range reads 0x00 and drops writes; code fetched from it is NOP (20 R64). -/
def Obligations.UnmappedReadsZero : Prop :=
  ∀ (a : Word) (v : Byte) (s : State), 0xFEA0 ≤ a.toNat → a.toNat ≤ 0xFEFF →
    busRead a s = (0x00, s) ∧ busWrite a v s = s ∧ (s.pc = a → (fetchInstr s).1 = .nop)

/-- What each in-scope I/O register holds after a write and returns on a read, unused bits as the rules say; a write of STAT
or LYC re-evaluates the STAT line, which may request the STAT interrupt at once, and changes nothing else; every other I/O
address reads an unspecified byte and ignores writes, but for the latch at 0xFF50. That the byte is the next of the model's
free bytes, and that their counter advances, is the model's choice, the counter being its own (log 4) (20 R67, R68, R69,
62 R398). -/
def Obligations.IoRegisterReadsAndWrites : Prop :=
  ∀ (v : Byte) (s : State),
    let readBack (a : Word) : Byte := (ioRead a (ioWrite a v s)).1
    (readBack 0xFF04 = 0x00 ∧ ioWrite 0xFF04 v s = { s with timer := { s.timer with ic := 0x0000 } })
    ∧ (readBack 0xFF05 = v ∧ ioWrite 0xFF05 v s = { s with timer := { s.timer with tima := v } })
    ∧ (readBack 0xFF06 = v ∧ ioWrite 0xFF06 v s = { s with timer := { s.timer with tma := v } })
    ∧ (readBack 0xFF07 = 0xF8 ||| v ∧ ioWrite 0xFF07 v s = { s with timer := { s.timer with tac := v.setWidth 3 } })
    ∧ (readBack 0xFF0F = 0xE0 ||| v ∧ ioWrite 0xFF0F v s = { s with ifr := v.setWidth 5 })
    ∧ readBack 0xFF40 = v
    ∧ (readBack 0xFF41 = 0x80 ||| (v &&& 0x78) ||| (if s.ppu.ly = s.ppu.lyc then 0x04 else 0x00) ||| s.ppu.mode.code
      ∧ ioWrite 0xFF41 v s = updateStatLine { s with ppu := { s.ppu with statEn := v.extractLsb' 3 4 } })
    ∧ (readBack 0xFF42 = v ∧ ioWrite 0xFF42 v s = { s with ppu := { s.ppu with scy := v } })
    ∧ (readBack 0xFF43 = v ∧ ioWrite 0xFF43 v s = { s with ppu := { s.ppu with scx := v } })
    ∧ (readBack 0xFF44 = s.ppu.ly ∧ ioWrite 0xFF44 v s = s)
    ∧ (readBack 0xFF45 = v ∧ ioWrite 0xFF45 v s = updateStatLine { s with ppu := { s.ppu with lyc := v } })
    ∧ readBack 0xFF46 = v
    ∧ (readBack 0xFF47 = v ∧ ioWrite 0xFF47 v s = { s with ppu := { s.ppu with bgp := v } })
    ∧ (readBack 0xFF48 = v ∧ ioWrite 0xFF48 v s = { s with ppu := { s.ppu with obp0 := v } })
    ∧ (readBack 0xFF49 = v ∧ ioWrite 0xFF49 v s = { s with ppu := { s.ppu with obp1 := v } })
    ∧ (readBack 0xFF4A = v ∧ ioWrite 0xFF4A v s = { s with ppu := { s.ppu with wy := v } })
    ∧ (readBack 0xFF4B = v ∧ ioWrite 0xFF4B v s = { s with ppu := { s.ppu with wx := v } })
    ∧ ∀ a : Word, 0xFF00 ≤ a.toNat → a.toNat ≤ 0xFF7F → a ∉ [0xFF04, 0xFF05, 0xFF06, 0xFF07, 0xFF0F] →
        (a.toNat < 0xFF40 ∨ 0xFF4B < a.toNat) →
        ioRead a s = drawByte s ∧ (a ≠ 0xFF50 → ioWrite a v s = s)

/-- OAM DMA: byte by byte OAM takes what the router without its gating reads at the source page, with the earlier bytes of
the copy in place, whatever the PPU mode; for sources that draw no free byte and are not the I/O page that is the source as
it was; the register holds the value, the busy count is 640, no clock is counted, and nothing else changes (20 R72). -/
def Obligations.DmaCopiesOnePage : Prop :=
  ∀ (v : Byte) (s : State), s.mem.wf →
    let t := ioWrite 0xFF46 v s
    let source (i : Nat) : Word := BitVec.ofNat 16 (256 * v.toNat + i)
    (∀ i < 160, t.mem.read (0xFE00 + i)
        = (rawRead (source i) ((List.range i).foldl (dmaCopyByte v) { s with dma := v })).1)
    ∧ (v ≠ 0xFF → (s.cartRamPresent = true ∨ v.toNat < 0xA0 ∨ 0xBF < v.toNat) →
        ∀ i < 160, t.mem.read (0xFE00 + i) = (rawRead (source i) s).1)
    ∧ (∀ (a : Word) (u : State), rawRead a u = if gated u a = true then (u.mem.read a.toNat, u) else busRead a u)
    ∧ (∀ k, (k < 0xFE00 ∨ 0xFE9F < k) → t.mem.read k = s.mem.read k)
    ∧ t = { s with dma := v, dmaBusy := 640, mem := t.mem, draws := t.draws }

/-- The boot-ROM-disable latch: a non-zero write clears it, a zero write does nothing, a read is an unspecified byte, and no
step ever sets it again. That the byte is the next of the model's free bytes, and that their counter advances, is the
model's choice, the counter being its own (log 4) (20 R70). -/
def Obligations.BootRomLatchIsOneWay : Prop :=
  (∀ (v : Byte) (s : State), busWrite 0xFF50 v s = if v = 0x00 then s else { s with bootRomEnabled := false })
  ∧ (∀ s : State, busRead 0xFF50 s = (Config.freeByte s.draws, { s with draws := s.draws + 1 }))
  ∧ ∀ s t : State, step s = .next t → s.bootRomEnabled = false → t.bootRomEnabled = false

/-- No step changes a byte of cartridge ROM, the boot ROM, or a parameter of the machine (20 R66, 00 R6). -/
def Obligations.RomIsNeverWritten : Prop :=
  ∀ s t : State, step s = .next t →
    (∀ k ≤ 0x7FFF, t.mem.read k = s.mem.read k) ∧ t.bootRom = s.bootRom
    ∧ t.cartRamPresent = s.cartRamPresent ∧ t.spriteFetchClocks = s.spriteFetchClocks

/-! ## Timer -/

/-- While TIMA does not overflow and no reload is pending, a tick of `n` clocks adds `n` to IC and to TIMA, if the timer is
enabled, one for each fall of the selected bit; nothing else changes (61 R357 to R360). -/
def Obligations.TimerCountsFallingEdges : Prop :=
  ∀ (n : Nat) (s : State), n % 4 = 0 → TimerInv s.timer → s.timer.overflowPending = false →
    let bit := [9, 3, 5, 7].getD (s.timer.tac.toNat % 4) 0
    let edges := if s.timer.tac.getLsbD 2 = true then fallingEdges bit s.timer.ic.toNat n else 0
    s.timer.tima.toNat + edges ≤ 255 →
    timerTick n s =
      { s with timer := { s.timer with
          ic := s.timer.ic + BitVec.ofNat 16 n, tima := BitVec.ofNat 8 (s.timer.tima.toNat + edges) } }

/-- A counted wrap of TIMA only opens the overflow window; one machine cycle later TIMA takes TMA and the Timer interrupt is
requested, TMA as it is then (61 R361, R365). -/
def Obligations.TimerReloadsOneCycleAfterOverflow : Prop :=
  ∀ (s : State) (tma : Byte), TimerInv s.timer → s.timer.overflowPending = false → s.timer.tima = 0xFF →
    s.timer.tac.getLsbD 2 = true →
    fallingEdges ([9, 3, 5, 7].getD (s.timer.tac.toNat % 4) 0) s.timer.ic.toNat 4 = 1 →
    let t := timerTick 4 s
    let u := timerTick 4 (ioWrite 0xFF06 tma t)
    (t.timer.tima = 0x00 ∧ t.timer.overflowPending = true ∧ t.ifr = s.ifr)
    ∧ u = { s with
        ifr := s.ifr ||| 0b00100
        timer := { s.timer with ic := s.timer.ic + 8, tima := tma, tma := tma, overflowPending := false } }

/-- Cutting the clock stream into ticks neither misses nor doubles an edge: two ticks in a row are one tick of the sum (61
R360). -/
def Obligations.TimerTicksAdd : Prop :=
  ∀ (m n : Nat) (s : State), m % 4 = 0 → n % 4 = 0 → timerTick (m + n) s = timerTick n (timerTick m s)

/-! ## PPU -/

/-- While the LCD is on, the clock within the frame advances by one per PPU clock modulo 70224, whatever the fetcher, the
window and the sprites do (62 R387, R393). -/
def Obligations.FrameTakes70224Clocks : Prop :=
  ∀ (n : Nat) (s : State), PpuInv s.ppu → s.ppu.lcdOn = true →
    framePosition (ppuCatchUp n s).ppu = (framePosition s.ppu + n) % 70224
    ∧ (ppuCatchUp n s).ppu.lcdOn = true

/-- One PPU clock, case by case: mode 3 does its clock's work; on the clock on which `dot` reaches 80 in mode 2 mode 3 is
entered with an empty FIFO; on the clock on which it reaches 456 the line ends, LY advances modulo 154, and line 144
enters mode 1, a visible line enters mode 2 with the OAM searched, and lines 145 to 153 stay; on every other clock `dot`
counts; and every clock ends with the STAT line evaluated. A catch-up with the LCD on is that many clocks. So on the clock
on which LY becomes 144, and on no other, IF bit 0 is set, mode 1 begins and the host is handed the frame buffer, which the
model records in two fields of its own (log 12) (62 R388, R389, R392, R395, R401, R437). -/
def Obligations.VBlankOnceAtLine144 : Prop :=
  (∀ s : State, PpuInv s.ppu → s.ppu.lcdOn = true →
    let t := ppuClock s
    let enters := decide (s.ppu.ly = 143 ∧ s.ppu.dot = 455)
    t.ifr.getLsbD 0 = (s.ifr.getLsbD 0 || enters)
    ∧ t.ppu.frames = s.ppu.frames + (if enters = true then 1 else 0)
    ∧ (if enters = true then t.ppu.mode = .vblank ∧ t.ppu.ly = 144 ∧ t.ppu.frame = t.ppu.fb
       else t.ppu.frame = s.ppu.frame ∧ (t.ppu.mode = .vblank → s.ppu.mode = .vblank)))
  ∧ (∀ s : State,
    let p := if s.ppu.mode = .transfer then s.ppu.mode3Clock s.mem s.spriteFetchClocks.val else s.ppu
    let dot := s.ppu.dot + 1
    let ly := (s.ppu.ly.toNat + 1) % 154
    ppuClock s = updateStatLine
      (if dot = 456 then
        (if ly = 144 then
          { s with
            ifr := s.ifr ||| 0b00001
            ppu := { p with dot := 0, ly := 144, mode := .vblank, frame := p.fb, frames := s.ppu.frames + 1 } }
        else if ly < 144 then
          { s with ppu := Ppu.search s.mem { p with dot := 0, ly := BitVec.ofNat 8 ly, mode := .oamSearch } }
        else { s with ppu := { p with dot := 0, ly := BitVec.ofNat 8 ly } })
      else if dot = 80 ∧ s.ppu.mode = .oamSearch then
        { s with ppu := { s.ppu with
            dot := 80
            mode := .transfer
            line := { s.ppu.line with
              fstate := .tileIndex, fphase := false, tileCol := 0, inWindow := false
              fifo := [], lx := 0, stall := 0, discard := s.ppu.scx.toNat % 8 } } }
      else { s with ppu := { p with dot := dot } }))
  ∧ (∀ (n : Nat) (s : State), s.ppu.lcdc.getLsbD 7 = true → ppuCatchUp n s = repeatN ppuClock n s)

/-- The STAT line: its level is the OR of the enabled terms while the LCD is on, and IF bit 1 is requested exactly on a
rise of the level; nothing else changes. Every PPU clock leaves the line at the level of its mode and LY, and requests IF
bit 1 exactly if that is a rise over the clock (62 R397, R398). -/
def Obligations.StatInterruptOnRisingEdge : Prop :=
  ∀ s : State,
    let level (p : Ppu) : Bool :=
      let en (bit : Nat) : Bool := p.statEn.getLsbD (bit - 3)
      p.lcdc.getLsbD 7
        && ((en 6 && decide (p.ly = p.lyc)) || (en 3 && decide (p.mode = .hblank))
          || ((en 4 || en 5) && decide (p.mode = .vblank)) || (en 5 && decide (p.mode = .oamSearch)))
    updateStatLine s =
      { s with
        ifr := if level s.ppu = true ∧ s.ppu.statLine = false then s.ifr ||| 0b00010 else s.ifr
        ppu := { s.ppu with statLine := level s.ppu } }
    ∧ let t := ppuClock s
      t.ppu.statLine = level t.ppu
      ∧ t.ifr.getLsbD 1 = (s.ifr.getLsbD 1 || (level t.ppu && !s.ppu.statLine))
      ∧ ∀ j, 2 ≤ j → t.ifr.getLsbD j = s.ifr.getLsbD j

/-- A CPU write to LCDC stores the byte; turning bit 7 off stops the PPU at line 0, dot 0, mode 0 with the STAT line low and
no request; turning it on starts a frame at the top in mode 2 with the OAM searched and the STAT line evaluated; while it
is off no PPU clock changes anything (62 R390). -/
def Obligations.LcdSwitchesOffAndOn : Prop :=
  ∀ (v : Byte) (s : State),
    let p := { s.ppu with lcdc := v }
    ioWrite 0xFF40 v s =
      (if s.ppu.lcdc.getLsbD 7 = true ∧ v.getLsbD 7 = false then
         { s with ppu := { p with ly := 0, dot := 0, mode := .hblank, statLine := false } }
       else if s.ppu.lcdc.getLsbD 7 = false ∧ v.getLsbD 7 = true then
         updateStatLine { s with ppu := Ppu.search s.mem { p with ly := 0, dot := 0, mode := .oamSearch } }
       else { s with ppu := p })
    ∧ (s.ppu.lcdc.getLsbD 7 = false → ∀ n, ppuCatchUp n s = s)

/-- The OAM search keeps the first ten entries in address order whose X is not 0 and whose rows include the line, ordered
by X, entries of equal X in address order; a sprite is the four bytes of its entry, not yet fetched; nothing else changes
(62 R406). -/
def Obligations.OamSearchKeepsFirstTenByX : Prop :=
  ∀ (mem : Memory) (p : Ppu),
    (∀ i < 40, oamSprite mem i =
      { posY := mem.read (0xFE00 + 4 * i)
        posX := mem.read (0xFE00 + (4 * i + 1))
        tileIndex := mem.read (0xFE00 + (4 * i + 2))
        priority := (mem.read (0xFE00 + (4 * i + 3))).getLsbD 7
        flipY := (mem.read (0xFE00 + (4 * i + 3))).getLsbD 6
        flipX := (mem.read (0xFE00 + (4 * i + 3))).getLsbD 5
        paletteSelect := (mem.read (0xFE00 + (4 * i + 3))).getLsbD 4
        fetched := false }) ∧
    let h := if p.lcdc.getLsbD 2 = true then 16 else 8
    let selected := (((List.range 40).map (oamSprite mem)).filter fun sp =>
      decide (sp.posX ≠ 0 ∧ sp.posY.toNat ≤ p.ly.toNat + 16 ∧ p.ly.toNat + 16 < sp.posY.toNat + h)).take 10
    let buf := (p.search mem).spriteBuf
    buf.Perm selected
    ∧ buf.Pairwise (fun x y => x.posX.toNat ≤ y.posX.toNat)
    ∧ (∀ x : Byte, buf.filter (fun sp => sp.posX == x) = selected.filter (fun sp => sp.posX == x))
    ∧ p.search mem = { p with spriteBuf := buf }

/-- Mode 3 from its entry to the end of the line, and clock by clock. On a line without sprites it lasts 176 clocks, one
more for each pixel of fine scroll and 17 more where the window starts, for every picture; then mode 0 begins, and the frame
buffer, if its form is canonical, holds for the 160 columns the shade of the background or window pixel there, every other
key as before. On one clock: a sprite fetch waited for is one clock nearer its end and the fetcher rests; else, where the
FIFO holds more than 8 pixels, the window starts exactly under its four conditions and restarts the fetcher with an empty
FIFO; else one pixel is dropped if any is left to discard; else the sprites due at LX are mixed in order, each once, and
their fetch is waited for, or the first FIFO pixel is written to the frame buffer in its shade and LX advances, the 160th
ending the mode. The fetcher runs on the clocks that drop or output a pixel and on those with too short a FIFO, a step every
second clock: tile number, low byte, high byte, then eight pixels pushed if there is room. A sprite's row is mixed slot by
slot: tall tile, flips, transparency, an earlier sprite and the priority flag as the rules say. The key 160 * LY + x is the
model's form of the frame buffer (log 13); that a pixel past the last column is still written there, in states that no run
reaches, is the model's choice (log 14) (62 R401 to R403, R410 to R416, R420, R421, R425 to R427, R430, R431). -/
def Obligations.PlainLineTransferTakes176Clocks : Prop :=
  (∀ (mem : Memory) (sfc : Nat) (p : Ppu), p.lcdc.getLsbD 1 = false →
    let len := lineLength p
    let after (n : Nat) : Ppu := repeatN (transferClock mem sfc) n p.enterMode3
    (∀ n < len, (after n).mode = .transfer) ∧ (after len).mode = .hblank ∧ (after len).line.lx = 160
    ∧ (p.fb.wf → ∀ k, (after len).fb.read k =
        if 160 * p.ly.toNat ≤ k ∧ k < 160 * p.ly.toNat + 160 then lineShade mem p (k - 160 * p.ly.toNat)
        else p.fb.read k))
  ∧ (∀ (mem : Memory) (sfc : Nat) (p : Ppu),
    let pops := p.line.stall = 0 ∧ 8 < p.line.fifo.length
    let t := p.mode3Clock mem sfc
    (pops ∧ windowStartsAt p → t = { p with line := { p.line with
        inWindow := true, fifo := [], fstate := .tileIndex, fphase := false, tileCol := 0, discard := 0 } })
    ∧ (¬ (pops ∧ windowStartsAt p) → t.line.inWindow = p.line.inWindow)
    ∧ (p.line.stall ≠ 0 → t = { p with line := { p.line with stall := p.line.stall - 1 } })
    ∧ (p.line.stall = 0 → p.line.fifo.length ≤ 8 → t = p.fetcherClock mem)
    ∧ (pops ∧ ¬ windowStartsAt p ∧ p.line.discard ≠ 0 →
        let dropped : Ppu := { p with line := { p.line with
          fifo := p.line.fifo.tail, discard := p.line.discard - 1 } }
        t = dropped.fetcherClock mem ∧ t.line.discard = p.line.discard - 1)
    ∧ (¬ pops ∨ windowStartsAt p ∨ p.line.discard ≠ 0 →
        t.fb = p.fb ∧ t.line.lx = p.line.lx ∧ t.mode = p.mode ∧ t.spriteBuf = p.spriteBuf)
    ∧ (pops ∧ ¬ windowStartsAt p ∧ p.line.discard = 0 →
        let due (sp : Sprite) : Bool :=
          p.lcdc.getLsbD 1 && !sp.fetched && decide (sp.posX.toNat = p.line.lx + 8)
        let stall := sfc * (p.spriteBuf.filter due).length
        let mixed := { p with
          spriteBuf := p.spriteBuf.map (fun sp => if due sp = true then { sp with fetched := true } else sp)
          line := { p.line with
            fifo := (p.spriteBuf.filter due).foldl (fun f sp => p.mixSprite mem sp f) p.line.fifo } }
        (stall ≠ 0 → t = { mixed with line := { mixed.line with stall := stall - 1 } })
        ∧ (stall = 0 → ∀ px rest, mixed.line.fifo = px :: rest →
            let out : Ppu := { mixed with
              fb := p.fb.write (160 * p.ly.toNat + p.line.lx) (pixelShade p px)
              mode := if p.line.lx + 1 = 160 then .hblank else p.mode
              line := { mixed.line with fifo := rest, lx := p.line.lx + 1 } }
            t = (if p.line.lx + 1 = 160 then out else out.fetcherClock mem)
            ∧ t.fb = p.fb.write (160 * p.ly.toNat + p.line.lx) (pixelShade p px)
            ∧ t.line.lx = p.line.lx + 1 ∧ t.mode = (if p.line.lx + 1 = 160 then .hblank else p.mode)
            ∧ t.spriteBuf = mixed.spriteBuf)))
  ∧ (∀ (mem : Memory) (p : Ppu),
    let y : Nat := if p.line.inWindow = true then (p.ly.toNat + 256 - p.wy.toNat) % 256
      else (p.ly.toNat + p.scy.toNat) % 256
    let cell : Nat :=
      if p.line.inWindow = true then
        (if p.lcdc.getLsbD 6 = true then 0x9C00 else 0x9800) + 32 * (y / 8) + p.line.tileCol.val
      else (if p.lcdc.getLsbD 3 = true then 0x9C00 else 0x9800) + 32 * (y / 8)
        + (p.scx.toNat / 8 + p.line.tileCol.val) % 32
    let tile : Nat := p.line.tileIndex.toNat
    let data : Nat := (if p.lcdc.getLsbD 4 = true then 0x8000 + 16 * tile else 0x8800 + 16 * ((tile + 128) % 256))
      + 2 * (y % 8)
    let color (bit : Nat) : Nat :=
      2 * (p.line.dataHigh.toNat / 2 ^ bit % 2) + p.line.dataLow.toNat / 2 ^ bit % 2
    let pixel (i : Nat) : Pixel :=
      { colorIndex := if p.lcdc.getLsbD 0 = true then BitVec.ofNat 2 (color (7 - i)) else 0
        sourceKind := if p.line.inWindow = true then .window else .background
        paletteSelect := false
        priority := false }
    p.fetcherClock mem = { p with line :=
      if p.line.fphase = false then { p.line with fphase := true }
      else match p.line.fstate with
        | .tileIndex => { p.line with fphase := false, tileIndex := mem.read cell, fstate := .dataLow }
        | .dataLow => { p.line with fphase := false, dataLow := mem.read data, fstate := .dataHigh }
        | .dataHigh => { p.line with fphase := false, dataHigh := mem.read (data + 1), fstate := .push }
        | .push =>
          if p.line.fifo.length ≤ 8 then
            { p.line with
              fphase := false, fifo := p.line.fifo ++ (List.range 8).map pixel
              tileCol := p.line.tileCol + 1, fstate := .tileIndex }
          else { p.line with fphase := false } })
  ∧ (∀ (mem : Memory) (p : Ppu) (sp : Sprite) (fifo : List Pixel) (i : Nat),
    let h : Nat := if p.lcdc.getLsbD 2 = true then 16 else 8
    let down : Nat := (((p.ly.toNat : Int) + 16 - sp.posY.toNat) % h).toNat
    let row : Nat := if sp.flipY = true then h - 1 - down else down
    let tile : Nat := if h = 16 then sp.tileIndex.toNat / 2 * 2 else sp.tileIndex.toNat
    let bit : Nat := if sp.flipX = true then i else 7 - i
    let byte (j : Nat) : Nat := (mem.read (0x8000 + 16 * tile + 2 * row + j)).toNat
    let c : Nat := 2 * (byte 1 / 2 ^ bit % 2) + byte 0 / 2 ^ bit % 2
    (p.mixSprite mem sp fifo)[i]? = fifo[i]?.map fun px =>
      if i < 8 ∧ c ≠ 0 ∧ px.sourceKind ≠ .sprite ∧ ¬ (sp.priority = true ∧ px.colorIndex ≠ 0) then
        { colorIndex := BitVec.ofNat 2 c, sourceKind := .sprite, paletteSelect := sp.paletteSelect,
          priority := sp.priority }
      else px)

/-! ## Reset and the invariant -/

/-- What reset leaves in profile boot, for every value of what the rule leaves unspecified, which the launch state carries:
the registers A to L, bits 7 to 4 of F, SP, memory and the frame buffer are those of the parameters (10 R44). -/
def Obligations.ResetValues : Prop :=
  ∀ params : State,
    let s := launchBoot params
    (s.pc = 0x0000 ∧ s.ime = false ∧ s.halt = false ∧ s.haltBug = false ∧ s.ie = 0x00 ∧ s.ifr = 0
      ∧ s.bootRomEnabled = true ∧ s.dma = 0x00 ∧ s.dmaBusy = 0 ∧ s.regs.f.extractLsb' 0 4 = 0)
    ∧ s.timer = { ic := 0x0000, tima := 0x00, tma := 0x00, tac := 0, overflowPending := false }
    ∧ s.ppu =
        { lcdc := 0x00, statEn := 0, scy := 0x00, scx := 0x00, ly := 0, lyc := 0x00, bgp := 0x00, obp0 := 0x00,
          obp1 := 0x00, wy := 0x00, wx := 0x00, mode := .hblank, dot := 0, statLine := false, spriteBuf := [],
          line := {
            fstate := .tileIndex, fphase := false, tileCol := 0, inWindow := false, tileIndex := 0,
            dataLow := 0, dataHigh := 0, fifo := [], lx := 0, discard := 0, stall := 0 },
          fb := s.ppu.fb, frame := s.ppu.frame, frames := s.ppu.frames }
    ∧ ((ioRead 0xFF0F s).1 = 0xE0 ∧ (ioRead 0xFF07 s).1 = 0xF8 ∧ (ioRead 0xFF41 s).1 = 0x84
      ∧ (ioRead 0xFF04 s).1 = 0x00)
    ∧ ((∀ r, s.regs.get r = params.regs.get r)
      ∧ (∀ j, 4 ≤ j → j < 8 → s.regs.f.getLsbD j = params.regs.f.getLsbD j)
      ∧ s.sp = params.sp ∧ s.mem = params.mem ∧ s.bootRom = params.bootRom ∧ s.ppu.fb = params.ppu.fb
      ∧ s.cartRamPresent = params.cartRamPresent ∧ s.spriteFetchClocks = params.spriteFetchClocks)
    ∧ State.reset = launchBoot State.reset

/-- The invariant holds after reset, with the values that logs 1 to 3 choose for what the spec leaves unspecified (10 R41,
R44). Profile direct launches exactly from a PPU state within the bounds of the rule, with two conditions that the model
adds (log 16), fixes the values that the rule fixes, takes everything else from the parameters, and its launch state has
the invariant where the parameters' storage and frames are canonical (10 R45, R41, 70 R451). -/
def Obligations.InvariantAtReset : Prop :=
  Inv State.reset
  ∧ ∀ (entryPc : Word) (params : State),
      let p := params.ppu
      (launchDirect entryPc params ≠ none ↔
        (p.ly.toNat ≤ 153 ∧ p.dot ≤ 455 ∧ p.spriteBuf.length ≤ 10 ∧ p.line.fifo.length ≤ 16 ∧ p.line.lx ≤ 160
          ∧ p.line.discard ≤ 7)
        ∧ (p.lcdc.getLsbD 7 = true → (p.mode = .vblank ↔ 144 ≤ p.ly.toNat))
        ∧ (p.lcdc.getLsbD 7 = false → p.ly = 0 ∧ p.mode = .hblank)
        ∧ (p.mode = .transfer → p.line.lx < 160))
      ∧ ∀ s, launchDirect entryPc params = some s →
          s = { params with
              pc := entryPc, bootRomEnabled := false, halt := false, haltBug := false, dmaBusy := 0
              regs := { params.regs with f := s.regs.f }
              timer := { params.timer with ic := s.timer.ic, overflowPending := false }
              ppu := { p with statLine := p.statLevel } }
          ∧ (∀ j < 8, s.regs.f.getLsbD j = (decide (4 ≤ j) && params.regs.f.getLsbD j))
          ∧ (∀ j < 16, s.timer.ic.getLsbD j = (decide (2 ≤ j) && params.timer.ic.getLsbD j))
          ∧ (StorageInv params → FrameInv p.fb → FrameInv p.frame → p.line.stall ≤ 160 →
              (p.lcdOn = false → p.dot = 0) → Inv s)

/-- Every step from a state of the invariant that gives a next state gives one of the invariant (10 R41). -/
def Obligations.InvariantKeptByEveryStep : Prop :=
  ∀ s t : State, Inv s → step s = .next t → Inv t

end Statements
end

