-- ==== Sys2Proof/Laws/Bits.lean ====
section
/-! SUPPORT. Splitting and joining words, the bits of a packed F, registers read after a write. -/

namespace Sys2Proof.Machine

@[simp] theorem hiByte_join (h l : Byte) : hiByte (join h l) = h := by
  unfold hiByte join
  ext i hi
  rw [BitVec.getElem_extractLsb', BitVec.getLsbD_append, if_neg (by omega), show 8 + i - 8 = i by omega,
    BitVec.getLsbD_eq_getElem hi]

@[simp] theorem loByte_join (h l : Byte) : loByte (join h l) = l := by
  unfold loByte join
  ext i hi
  rw [BitVec.getElem_extractLsb', BitVec.getLsbD_append, if_pos (by omega), Nat.zero_add,
    BitVec.getLsbD_eq_getElem hi]

@[simp] theorem join_hiByte_loByte (v : Word) : join (hiByte v) (loByte v) = v := by
  unfold hiByte loByte join
  apply BitVec.eq_of_getLsbD_eq
  intro i hi
  rw [BitVec.getLsbD_append, BitVec.getLsbD_extractLsb', BitVec.getLsbD_extractLsb']
  split
  · simp [*]
  · rw [show 8 + (i - 8) = i by omega]
    simp [show i - 8 < 8 by omega]

/-- A 16-bit value as a number, from its bytes. -/
theorem join_toNat (h l : Byte) : (join h l).toNat = 256 * h.toNat + l.toNat := by
  unfold join
  rw [BitVec.toNat_append, Nat.shiftLeft_eq, Nat.mul_comm, ← Nat.two_pow_add_eq_or_of_lt l.isLt]

@[simp] theorem Regs.get_set (g : Regs) (r q : R8) (v : Byte) :
    (g.set r v).get q = if q = r then v else g.get q := by
  cases r <;> cases q <;> rfl

@[simp] theorem Regs.set_f (g : Regs) (r : R8) (v : Byte) : (g.set r v).f = g.f := by
  cases r <;> rfl

@[simp] theorem Regs.get_with_f (g : Regs) (v : Byte) (q : R8) : ({ g with f := v } : Regs).get q = g.get q := by
  cases q <;> rfl

/-- Setting a register to what it holds changes nothing. -/
@[simp] theorem Regs.set_get (g : Regs) (r : R8) : g.set r (g.get r) = g := by
  cases r <;> rfl

/-- A packed F has no low nibble to mask (10 R15). -/
@[simp] theorem packF_masked (z n h c : Bool) : packF z n h c &&& 0xF0 = packF z n h c := by
  cases z <;> cases n <;> cases h <;> cases c <;> rfl

@[simp] theorem packF_low (z n h c : Bool) : (packF z n h c).extractLsb' 0 4 = 0 := by
  cases z <;> cases n <;> cases h <;> cases c <;> rfl

@[simp] theorem packF_z (z n h c : Bool) : (packF z n h c).getLsbD 7 = z := by
  cases z <;> cases n <;> cases h <;> cases c <;> rfl

@[simp] theorem packF_n (z n h c : Bool) : (packF z n h c).getLsbD 6 = n := by
  cases z <;> cases n <;> cases h <;> cases c <;> rfl

@[simp] theorem packF_h (z n h c : Bool) : (packF z n h c).getLsbD 5 = h := by
  cases z <;> cases n <;> cases h <;> cases c <;> rfl

@[simp] theorem packF_c (z n h c : Bool) : (packF z n h c).getLsbD 4 = c := by
  cases z <;> cases n <;> cases h <;> cases c <;> rfl

/-- Whatever byte is masked into F, the low nibble is 0 (10 R15). -/
theorem masked_low (v : Byte) : (v &&& 0xF0).extractLsb' 0 4 = 0 := by
  revert v; decide

/-- `0xFF00 + n` as a number (30 R108). -/
theorem highPage_toNat (n : Byte) : (highPage n).toNat = 0xFF00 + n.toNat := by
  have h := n.isLt
  unfold highPage zext16
  rw [BitVec.toNat_add, BitVec.toNat_setWidth, show (0xFF00 : Word).toNat = 0xFF00 from rfl]
  omega

theorem repeatN_succ' {α : Type} (f : α → α) (n : Nat) (x : α) : repeatN f (n + 1) x = f (repeatN f n x) := by
  induction n generalizing x with
  | zero => rfl
  | succ n ih => exact ih (f x)

theorem repeatN_add {α : Type} (f : α → α) (m n : Nat) (x : α) : repeatN f (m + n) x = repeatN f n (repeatN f m x) := by
  induction m generalizing x with
  | zero => rw [Nat.zero_add]; rfl
  | succ m ih => rw [Nat.succ_add]; exact ih (f x)

/-- What one application keeps, any number of them keeps. -/
theorem repeatN_keeps {α : Type} (f : α → α) (P : α → Prop) (hf : ∀ x, P x → P (f x)) (n : Nat) {x : α} (h : P x) :
    P (repeatN f n x) := by
  induction n generalizing x with
  | zero => exact h
  | succ n ih => exact ih (hf x h)

end Sys2Proof.Machine
end

