-- ==== Sys2Proof/Laws/Memory.lean ====
section
/-! SUPPORT. A memory reads back what was written and nothing else changes; every operation keeps the canonical form; what the
launch functions answer. -/

namespace Sys2Proof.Machine

/-- In a canonical memory every cell lies above a bound that lies below its first cell. -/
theorem Memory.wf_tail {x : Host.Cell} {m : Memory} (h : Memory.wf (x :: m)) : Memory.wf m :=
  ⟨(List.pairwise_cons.1 h.1).2, fun y hy => h.2 y (List.mem_cons_of_mem _ hy)⟩

theorem Memory.wf_head_lt {x : Host.Cell} {m : Memory} (h : Memory.wf (x :: m)) {y : Host.Cell} (hy : y ∈ m) :
    x.1 < y.1 :=
  (List.pairwise_cons.1 h.1).1 y hy

@[simp] theorem Memory.wf_nil : Memory.wf [] := ⟨List.Pairwise.nil, by simp⟩

/-- A key that no cell has reads as an unlisted byte. -/
theorem Memory.read_of_not_mem {m : Memory} {k : Nat} (h : ∀ x ∈ m, x.1 ≠ k) : m.read k = Memory.unlisted := by
  induction m with
  | nil => rfl
  | cons x m ih =>
    obtain ⟨k', v⟩ := x
    have hne : k' ≠ k := h (k', v) (List.mem_cons_self ..)
    simp only [Memory.read, if_neg hne]
    exact ih fun y hy => h y (List.mem_cons_of_mem _ hy)

/-- Putting a byte in front: the other keys read as before. -/
theorem Memory.read_put_of_ne {m : Memory} {k j : Nat} (v : Byte) (h : j ≠ k) :
    (Memory.put k v m).read j = m.read j := by
  unfold Memory.put
  split
  · rfl
  · simp only [Memory.read, if_neg h.symm]

/-- A write leaves every other key alone, in any memory. -/
theorem Memory.read_write_of_ne (m : Memory) {k j : Nat} (v : Byte) (h : j ≠ k) :
    (m.write k v).read j = m.read j := by
  induction m with
  | nil => exact Memory.read_put_of_ne v h
  | cons x m ih =>
    obtain ⟨k', v'⟩ := x
    simp only [Memory.write]
    split
    · exact Memory.read_put_of_ne v h
    · split
      · rename_i _ hk
        rw [Memory.read_put_of_ne v h]
        simp only [Memory.read, if_neg (hk ▸ h.symm)]
      · simp only [Memory.read]
        rw [ih]

/-- Putting a byte in front of cells with larger keys: it reads back. -/
theorem Memory.read_put_same {m : Memory} {k : Nat} (v : Byte) (h : ∀ x ∈ m, x.1 ≠ k) :
    (Memory.put k v m).read k = v := by
  unfold Memory.put
  split
  · rename_i hv
    rw [Memory.read_of_not_mem h, hv]
  · simp [Memory.read]

/-- A byte written to a canonical memory reads back. -/
theorem Memory.read_write_same {m : Memory} (hm : m.wf) (k : Nat) (v : Byte) : (m.write k v).read k = v := by
  induction m with
  | nil => exact Memory.read_put_same v (by simp)
  | cons x m ih =>
    obtain ⟨k', v'⟩ := x
    simp only [Memory.write]
    split
    · rename_i hk
      refine Memory.read_put_same v fun y hy => ?_
      rcases List.mem_cons.1 hy with rfl | hy
      · exact Nat.ne_of_gt hk
      · exact Nat.ne_of_gt (Nat.lt_trans hk (Memory.wf_head_lt hm hy))
    · split
      · rename_i hk
        exact Memory.read_put_same v fun y hy => Nat.ne_of_gt (hk ▸ Memory.wf_head_lt hm hy)
      · rename_i hk
        simp only [Memory.read, if_neg (Ne.symm hk)]
        exact ih (Memory.wf_tail hm)

/-- Putting a byte in front of cells with larger keys keeps the canonical form. -/
theorem Memory.wf_put {m : Memory} (hm : m.wf) {k : Nat} (v : Byte) (h : ∀ x ∈ m, k < x.1) :
    (Memory.put k v m).wf := by
  unfold Memory.put
  split
  · exact hm
  · rename_i hv
    exact ⟨List.pairwise_cons.2 ⟨h, hm.1⟩, fun x hx => by
      rcases List.mem_cons.1 hx with rfl | hx
      · exact hv
      · exact hm.2 x hx⟩

/-- The cells after a write: the one written, or cells that were there. -/
theorem Memory.mem_write {m : Memory} {k : Nat} {v : Byte} {x : Host.Cell} (h : x ∈ m.write k v) :
    x = (k, v) ∨ x ∈ m := by
  induction m with
  | nil =>
    simp only [Memory.write, Memory.put] at h
    split at h
    · exact .inr h
    · simpa using h
  | cons y m ih =>
    obtain ⟨k', v'⟩ := y
    simp only [Memory.write, Memory.put] at h
    split at h
    · split at h
      · exact .inr h
      · rcases List.mem_cons.1 h with h | h
        · exact .inl h
        · exact .inr h
    · split at h
      · split at h
        · exact .inr (List.mem_cons_of_mem _ h)
        · rcases List.mem_cons.1 h with h | h
          · exact .inl h
          · exact .inr (List.mem_cons_of_mem _ h)
      · rcases List.mem_cons.1 h with h | h
        · exact .inr (h ▸ List.mem_cons_self ..)
        · rcases ih h with h | h
          · exact .inl h
          · exact .inr (List.mem_cons_of_mem _ h)

/-- A write keeps the canonical form. -/
theorem Memory.wf_write {m : Memory} (hm : m.wf) (k : Nat) (v : Byte) : (m.write k v).wf := by
  induction m with
  | nil => exact Memory.wf_put hm v (by simp)
  | cons x m ih =>
    obtain ⟨k', v'⟩ := x
    simp only [Memory.write]
    split
    · rename_i hk
      refine Memory.wf_put hm v fun y hy => ?_
      rcases List.mem_cons.1 hy with rfl | hy
      · exact hk
      · exact Nat.lt_trans hk (Memory.wf_head_lt hm hy)
    · split
      · rename_i hk
        exact Memory.wf_put (Memory.wf_tail hm) v fun y hy => hk ▸ Memory.wf_head_lt hm hy
      · rename_i h1 h2
        refine ⟨List.pairwise_cons.2 ⟨fun y hy => ?_, (ih (Memory.wf_tail hm)).1⟩, fun y hy => ?_⟩
        · rcases Memory.mem_write hy with rfl | hy
          · show k' < k
            omega
          · exact Memory.wf_head_lt hm hy
        · rcases List.mem_cons.1 hy with rfl | hy
          · exact hm.2 _ (List.mem_cons_self ..)
          · exact (ih (Memory.wf_tail hm)).2 y hy

/-- Loading a list of bytes keeps the canonical form. -/
theorem Memory.wf_load {m : Memory} (hm : m.wf) (k : Nat) (bs : List Byte) : (m.load k bs).wf := by
  induction bs generalizing m k with
  | nil => exact hm
  | cons v vs ih => exact ih (Memory.wf_write hm k v) (k + 1)

/-- Loading a list of bytes leaves the keys outside its range alone. -/
theorem Memory.read_load_of_out (m : Memory) (k : Nat) (bs : List Byte) {j : Nat} (h : j < k ∨ k + bs.length ≤ j) :
    (m.load k bs).read j = m.read j := by
  induction bs generalizing m k with
  | nil => rfl
  | cons v vs ih =>
    rw [List.length_cons] at h
    simp only [Memory.load]
    rw [ih (m.write k v) (k + 1) (by omega), Memory.read_write_of_ne m v (by omega)]

/-! ## Every operation that touches `mem` keeps its canonical form -/

theorem storeByte_wf {s : State} (h : s.mem.wf) (a : Word) (v : Byte) : (storeByte a v s).mem.wf :=
  Memory.wf_write h _ _

/-- A read keeps all of memory. -/
theorem rawRead_mem (a : Word) (s : State) : (rawRead a s).2.mem = s.mem := by
  unfold rawRead ioRead drawByte
  split <;> first | rfl | (split <;> rfl)

theorem dmaCopyByte_wf {s : State} (h : s.mem.wf) (v : Byte) (i : Nat) : (dmaCopyByte v s i).mem.wf := by
  unfold dmaCopyByte
  refine Memory.wf_write ?_ _ _
  rw [rawRead_mem]
  exact h

theorem foldl_dmaCopyByte_wf (v : Byte) (is : List Nat) {s : State} (h : s.mem.wf) :
    (is.foldl (dmaCopyByte v) s).mem.wf := by
  induction is generalizing s with
  | nil => exact h
  | cons i is ih => exact ih (dmaCopyByte_wf h v i)

theorem dmaWrite_wf {s : State} (h : s.mem.wf) (v : Byte) : (dmaWrite v s).mem.wf :=
  foldl_dmaCopyByte_wf v (List.range 160) (s := { s with dma := v }) h

theorem updateStatLine_mem' (s : State) : (updateStatLine s).mem = s.mem := rfl

theorem writeLcdc_mem (v : Byte) (s : State) : (writeLcdc v s).mem = s.mem := by
  unfold writeLcdc
  simp only
  split
  · rfl
  · split <;> rfl

theorem ioWrite_wf {s : State} (h : s.mem.wf) (a : Word) (v : Byte) : (ioWrite a v s).mem.wf := by
  unfold ioWrite
  split
  case h_6 => rw [writeLcdc_mem]; exact h
  case h_11 => exact dmaWrite_wf h v
  case h_17 => split <;> exact h
  all_goals exact h

theorem busWrite_wf {s : State} (h : s.mem.wf) (a : Word) (v : Byte) : (busWrite a v s).mem.wf := by
  unfold busWrite
  split
  · exact h
  · split
    case h_2 => split <;> first | exact h | exact storeByte_wf h a v
    case h_4 => exact ioWrite_wf h a v
    all_goals first | exact h | exact storeByte_wf h a v

theorem placeByte_wf {s : State} (h : s.mem.wf) (a : Word) (v : Byte) : (placeByte a v s).mem.wf := by
  unfold placeByte
  split
  case h_1 => split <;> first | exact h | exact storeByte_wf h a v
  all_goals first | exact h | exact storeByte_wf h a v

theorem placeBytes_wf (bs : List Byte) {s : State} (h : s.mem.wf) (a : Word) : (placeBytes a bs s).mem.wf := by
  induction bs generalizing s a with
  | nil => exact h
  | cons v vs ih => exact ih (placeByte_wf h a v) (a + 1)

/-- Loading a cartridge changes memory alone, from `a` on and below 0x8000 (20 R66). -/
theorem loadCartridge_read (a : Nat) (image : List Byte) (s : State) {k : Nat} (h : k < a ∨ 0x8000 ≤ k) :
    (loadCartridge a image s).mem.read k = s.mem.read k :=
  Memory.read_load_of_out _ _ _ (by rw [List.length_take]; omega)

theorem loadCartridge_wf {s : State} (h : s.mem.wf) (a : Nat) (image : List Byte) : (loadCartridge a image s).mem.wf :=
  Memory.wf_load h a _

/-- Profile direct answers the launch state of its parameters, or nothing (10 R45). -/
theorem launchDirect_some {entryPc : Word} {params s : State} :
    launchDirect entryPc params = some s ↔ params.ppu.launchable ∧ s = directState entryPc params := by
  unfold launchDirect
  split
  · rename_i h
    exact ⟨fun e => ⟨h, (Option.some.inj e).symm⟩, fun e => congrArg some e.2.symm⟩
  · rename_i h
    exact ⟨fun e => absurd e (by simp), fun e => absurd e.1 h⟩

/-- Reset memory is canonical. -/
theorem reset_mem_wf : State.reset.mem.wf := Memory.wf_nil

end Sys2Proof.Machine
end

