-- ==== Sys2Proof/Laws/Bus.lean ====
section
/-! SUPPORT. Everything a bus access can do: it keeps the CPU's own state, sees only the devices and memory, and charges 4
clocks; one law per memory primitive, for the prover to cite. -/

namespace Sys2Proof.Machine

/-- The CPU's own state, which no bus access reads or changes. -/
structure Cpu where
  regs : Regs
  sp : Word
  pc : Word
  ime : Bool
  halt : Bool
  haltBug : Bool
  clocks : Nat
  opcodePc : Word
  deriving DecidableEq, Repr

/-- The CPU's own state of a machine state. -/
def State.cpu (s : State) : Cpu :=
  { regs := s.regs, sp := s.sp, pc := s.pc, ime := s.ime, halt := s.halt, haltBug := s.haltBug, clocks := s.clocks,
    opcodePc := s.opcodePc }

/-- A machine state with other CPU state. -/
def State.withCpu (c : Cpu) (s : State) : State :=
  { s with
    regs := c.regs, sp := c.sp, pc := c.pc, ime := c.ime, halt := c.halt, haltBug := c.haltBug, clocks := c.clocks,
    opcodePc := c.opcodePc }

@[simp] theorem State.withCpu_cpu (s : State) : s.withCpu s.cpu = s := rfl
@[simp] theorem State.cpu_withCpu (c : Cpu) (s : State) : (s.withCpu c).cpu = c := rfl
@[simp] theorem State.withCpu_withCpu (c d : Cpu) (s : State) : (s.withCpu c).withCpu d = s.withCpu d := rfl

/-! ## Reads -/

/-- A read of the I/O page changes only the count of free bytes drawn (20 R78). -/
theorem ioRead_state (a : Word) (s : State) : (ioRead a s).2 = { s with draws := (ioRead a s).2.draws } := by
  unfold ioRead
  split <;> rfl

theorem rawRead_state (a : Word) (s : State) : (rawRead a s).2 = { s with draws := (rawRead a s).2.draws } := by
  unfold rawRead
  split <;> first | rfl | (split <;> rfl) | exact ioRead_state a s

/-- A bus read changes only the count of free bytes drawn (20 R78). -/
theorem busRead_state (a : Word) (s : State) : (busRead a s).2 = { s with draws := (busRead a s).2.draws } := by
  unfold busRead
  split
  · rfl
  · exact rawRead_state a s

/-- The count of free bytes never falls. -/
theorem busRead_draws_le (a : Word) (s : State) : s.draws ≤ (busRead a s).2.draws := by
  unfold busRead
  split
  · exact Nat.le_refl _
  · unfold rawRead ioRead drawByte
    split
    case h_2 => split <;> first | exact Nat.le_refl _ | exact Nat.le_succ _
    case h_4 => split <;> first | exact Nat.le_refl _ | exact Nat.le_succ _
    all_goals exact Nat.le_refl _

theorem ioRead_withCpu (a : Word) (c : Cpu) (s : State) :
    ioRead a (s.withCpu c) = ((ioRead a s).1, (ioRead a s).2.withCpu c) := by
  unfold ioRead
  rw [show ioRegister (s.withCpu c) a = ioRegister s a from rfl]
  cases ioRegister s a <;> rfl

theorem rawRead_withCpu (a : Word) (c : Cpu) (s : State) :
    rawRead a (s.withCpu c) = ((rawRead a s).1, (rawRead a s).2.withCpu c) := by
  unfold rawRead
  cases regionOf a
  case cartRam =>
    simp only [show (s.withCpu c).cartRamPresent = s.cartRamPresent from rfl]
    split <;> rfl
  case io => exact ioRead_withCpu a c s
  all_goals rfl

/-- A bus read neither sees nor changes the CPU's own state. -/
theorem busRead_withCpu (a : Word) (c : Cpu) (s : State) :
    busRead a (s.withCpu c) = ((busRead a s).1, (busRead a s).2.withCpu c) := by
  unfold busRead
  rw [show gated (s.withCpu c) a = gated s a from rfl, rawRead_withCpu]
  split <;> rfl

/-- `MemRead` is the router's read and 4 clocks (00 R9). -/
theorem memRead_eq (a : Word) (s : State) :
    memRead a s
      = ((busRead a s).1, { s with clocks := s.clocks + 4, draws := (busRead a s).2.draws }) := by
  have h := busRead_state a s
  unfold memRead addClocks
  generalize busRead a s = r at h ⊢
  simp only
  rw [h]

/-! ## Writes -/

theorem updateStatLine_withCpu (c : Cpu) (s : State) :
    updateStatLine (s.withCpu c) = (updateStatLine s).withCpu c := rfl

theorem dmaCopyByte_withCpu (v : Byte) (c : Cpu) (s : State) (i : Nat) :
    dmaCopyByte v (s.withCpu c) i = (dmaCopyByte v s i).withCpu c := by
  unfold dmaCopyByte
  rw [rawRead_withCpu]
  rfl

theorem foldl_dmaCopyByte_withCpu (v : Byte) (c : Cpu) (is : List Nat) (s : State) :
    is.foldl (dmaCopyByte v) (s.withCpu c) = (is.foldl (dmaCopyByte v) s).withCpu c := by
  induction is generalizing s with
  | nil => rfl
  | cons i is ih => rw [List.foldl_cons, List.foldl_cons, dmaCopyByte_withCpu, ih]

theorem dmaWrite_withCpu (v : Byte) (c : Cpu) (s : State) :
    dmaWrite v (s.withCpu c) = (dmaWrite v s).withCpu c := by
  have h := foldl_dmaCopyByte_withCpu v c (List.range 160) { s with dma := v }
  unfold dmaWrite
  simp only
  rw [show ({ s.withCpu c with dma := v } : State) = State.withCpu c { s with dma := v } from rfl, h]
  rfl

theorem writeLcdc_withCpu (v : Byte) (c : Cpu) (s : State) :
    writeLcdc v (s.withCpu c) = (writeLcdc v s).withCpu c := by
  unfold writeLcdc
  simp only [show (s.withCpu c).ppu = s.ppu from rfl, show (s.withCpu c).mem = s.mem from rfl]
  split
  · rfl
  · split <;> rfl

theorem ioWrite_withCpu (a : Word) (v : Byte) (c : Cpu) (s : State) :
    ioWrite a v (s.withCpu c) = (ioWrite a v s).withCpu c := by
  unfold ioWrite
  split
  case h_6 => exact writeLcdc_withCpu v c s
  case h_11 => exact dmaWrite_withCpu v c s
  case h_17 => split <;> rfl
  all_goals rfl

/-- A bus write neither sees nor changes the CPU's own state. -/
theorem busWrite_withCpu (a : Word) (v : Byte) (c : Cpu) (s : State) :
    busWrite a v (s.withCpu c) = (busWrite a v s).withCpu c := by
  unfold busWrite
  rw [show gated (s.withCpu c) a = gated s a from rfl]
  split
  · rfl
  · cases regionOf a
    case cartRam => simp only [show (s.withCpu c).cartRamPresent = s.cartRamPresent from rfl]; split <;> rfl
    case io => exact ioWrite_withCpu a v c s
    all_goals rfl

/-- A bus write keeps the CPU's own state. -/
theorem busWrite_cpu (a : Word) (v : Byte) (s : State) : (busWrite a v s).cpu = s.cpu := by
  have h := busWrite_withCpu a v s.cpu s
  rw [State.withCpu_cpu] at h
  rw [h, State.cpu_withCpu]

/-- The DMA copy changes OAM's bytes and the count of free bytes only. -/
theorem foldl_dmaCopyByte_state (v : Byte) (is : List Nat) (s : State) :
    is.foldl (dmaCopyByte v) s =
      { s with mem := (is.foldl (dmaCopyByte v) s).mem, draws := (is.foldl (dmaCopyByte v) s).draws } := by
  induction is generalizing s with
  | nil => rfl
  | cons i is ih =>
    rw [List.foldl_cons, ih]
    have h : dmaCopyByte v s i =
        { s with mem := (dmaCopyByte v s i).mem, draws := (dmaCopyByte v s i).draws } := by
      unfold dmaCopyByte
      simp only
      rw [rawRead_state]
    generalize dmaCopyByte v s i = u at h ⊢
    rw [h]

theorem foldl_dmaCopyByte_read (v : Byte) (is : List Nat) (s : State) {k : Nat} (h : ∀ i ∈ is, k ≠ 0xFE00 + i) :
    (is.foldl (dmaCopyByte v) s).mem.read k = s.mem.read k := by
  induction is generalizing s with
  | nil => rfl
  | cons i is ih =>
    rw [List.foldl_cons, ih _ fun j hj => h j (List.mem_cons_of_mem _ hj)]
    unfold dmaCopyByte
    simp only
    rw [Memory.read_write_of_ne _ _ (h i (List.mem_cons_self ..)), rawRead_mem]

/-- The DMA write changes DMA, the busy count, OAM's bytes and the count of free bytes only (20 R72). -/
theorem dmaWrite_state (v : Byte) (s : State) :
    dmaWrite v s =
      { s with dma := v, dmaBusy := 640, mem := (dmaWrite v s).mem, draws := (dmaWrite v s).draws } := by
  have h := foldl_dmaCopyByte_state v (List.range 160) { s with dma := v }
  unfold dmaWrite
  simp only
  rw [h]

theorem dmaWrite_read (v : Byte) (s : State) {k : Nat} (h : k < 0xFE00 ∨ 0xFE9F < k) :
    (dmaWrite v s).mem.read k = s.mem.read k := by
  unfold dmaWrite
  refine foldl_dmaCopyByte_read v (List.range 160) { s with dma := v } fun i hi => ?_
  have := List.mem_range.1 hi
  omega

/-- What an I/O write can change: device registers, the latch, and through DMA memory and the count of free bytes. -/
theorem ioWrite_state (a : Word) (v : Byte) (s : State) :
    ioWrite a v s =
      { s with
        mem := (ioWrite a v s).mem, ifr := (ioWrite a v s).ifr, timer := (ioWrite a v s).timer
        ppu := (ioWrite a v s).ppu, dma := (ioWrite a v s).dma, dmaBusy := (ioWrite a v s).dmaBusy
        bootRomEnabled := (ioWrite a v s).bootRomEnabled, draws := (ioWrite a v s).draws } := by
  unfold ioWrite
  split
  case h_6 =>
    unfold writeLcdc
    simp only
    split
    · rfl
    · split <;> rfl
  case h_11 => rw [dmaWrite_state]
  case h_17 => split <;> rfl
  all_goals rfl

/-- What a bus write can change (20 R62, R68). -/
theorem busWrite_state (a : Word) (v : Byte) (s : State) :
    busWrite a v s =
      { s with
        mem := (busWrite a v s).mem, ie := (busWrite a v s).ie, ifr := (busWrite a v s).ifr
        timer := (busWrite a v s).timer, ppu := (busWrite a v s).ppu, dma := (busWrite a v s).dma
        dmaBusy := (busWrite a v s).dmaBusy, bootRomEnabled := (busWrite a v s).bootRomEnabled
        draws := (busWrite a v s).draws } := by
  unfold busWrite
  split
  · rfl
  · cases regionOf a
    case cartRam => simp only; split <;> rfl
    case io => simp only; rw [ioWrite_state]
    all_goals rfl

/-- `MemWrite` is the router's write and 4 clocks (00 R9). -/
theorem memWrite_eq (a : Word) (v : Byte) (s : State) :
    memWrite a v s = { busWrite a v s with clocks := s.clocks + 4 } := by
  unfold memWrite addClocks
  rw [show (busWrite a v s).clocks = s.clocks from congrArg Cpu.clocks (busWrite_cpu a v s)]

/-- `Fetch8` is the router's read at PC, 4 clocks, and PC one higher (00 R9). -/
theorem fetch8_eq (s : State) :
    fetch8 s
      = ((busRead s.pc s).1,
          { s with pc := s.pc + 1, clocks := s.clocks + 4, draws := (busRead s.pc s).2.draws }) := by
  unfold fetch8
  rw [memRead_eq]

/-- `Push16`: two router writes, high byte at SP - 1 first, SP two lower, 8 clocks (00 R9). -/
theorem push16_eq (v : Word) (s : State) :
    push16 v s =
      { busWrite (s.sp - 1 - 1) (loByte v) (busWrite (s.sp - 1) (hiByte v) s) with
        sp := s.sp - 1 - 1, clocks := s.clocks + 8 } := by
  have e1 : memWrite (s.sp - 1) (hiByte v) { s with sp := s.sp - 1 }
      = (busWrite (s.sp - 1) (hiByte v) s).withCpu { s.cpu with sp := s.sp - 1, clocks := s.clocks + 4 } := by
    rw [memWrite_eq, show ({ s with sp := s.sp - 1 } : State) = s.withCpu { s.cpu with sp := s.sp - 1 } from rfl,
      busWrite_withCpu]
    rfl
  unfold push16
  simp only
  rw [e1]
  simp only [show ∀ c : Cpu, ∀ u : State, (u.withCpu c).sp = c.sp from fun _ _ => rfl]
  rw [show ({ (busWrite (s.sp - 1) (hiByte v) s).withCpu { s.cpu with sp := s.sp - 1, clocks := s.clocks + 4 } with
        sp := s.sp - 1 - 1 } : State)
      = (busWrite (s.sp - 1) (hiByte v) s).withCpu { s.cpu with sp := s.sp - 1 - 1, clocks := s.clocks + 4 } from rfl,
    memWrite_eq, busWrite_withCpu]
  have h := (busWrite_cpu (s.sp - 1 - 1) (loByte v) _).trans (busWrite_cpu (s.sp - 1) (hiByte v) s)
  generalize busWrite (s.sp - 1 - 1) (loByte v) (busWrite (s.sp - 1) (hiByte v) s) = u at h ⊢
  have hu : u = u.withCpu s.cpu := by rw [← h]; rfl
  rw [hu]
  rfl

/-- `Push16` from a state with CPU state `c`: the stores do not see it (00 R9). -/
theorem push16_withCpu (v : Word) (c : Cpu) (s : State) :
    push16 v (s.withCpu c) =
      (busWrite (c.sp - 1 - 1) (loByte v) (busWrite (c.sp - 1) (hiByte v) s)).withCpu
        { c with sp := c.sp - 1 - 1, clocks := c.clocks + 8 } := by
  rw [push16_eq]
  simp only [show (s.withCpu c).sp = c.sp from rfl, show (s.withCpu c).clocks = c.clocks from rfl, busWrite_withCpu]
  rfl

/-- A state whose CPU state is `c` is that state with CPU state `c`. -/
theorem State.eq_withCpu {u : State} {c : Cpu} (h : u.cpu = c) : u = u.withCpu c := by
  rw [← h]
  rfl

/-- `Pop16`: two router reads, low byte at SP first, SP two higher, 8 clocks (00 R9). -/
theorem pop16_eq (s : State) :
    pop16 s =
      (join (busRead (s.sp + 1) (busRead s.sp s).2).1 (busRead s.sp s).1,
        { s with
          sp := s.sp + 1 + 1, clocks := s.clocks + 8
          draws := (busRead (s.sp + 1) (busRead s.sp s).2).2.draws }) := by
  unfold pop16
  simp only
  rw [memRead_eq, memRead_eq]
  have e : ({ s with sp := s.sp + 1, clocks := s.clocks + 4, draws := (busRead s.sp s).2.draws } : State)
      = (busRead s.sp s).2.withCpu { s.cpu with sp := s.sp + 1, clocks := s.clocks + 4 } := by
    rw [busRead_state s.sp s]
    rfl
  simp only
  rw [e, busRead_withCpu, busRead_state s.sp s]
  rfl

/-! ## What a store leaves alone -/

/-- A write to an address outside the I/O page changes memory at the address's home, or IE, and nothing else. -/
theorem busWrite_of_not_io {a : Word} (h : regionOf a ≠ .io) (v : Byte) (s : State) :
    busWrite a v s = { s with mem := (busWrite a v s).mem, ie := (busWrite a v s).ie } := by
  unfold busWrite
  split
  · rfl
  · cases hr : regionOf a
    case cartRam => simp only; split <;> rfl
    case io => exact absurd hr h
    all_goals rfl

theorem regionOf_eq_ie {a : Word} (h : regionOf a = .ie) : a = 0xFFFF := by
  have := a.isLt
  unfold regionOf at h
  apply BitVec.eq_of_toNat_eq
  rw [show (0xFFFF : Word).toNat = 65535 from rfl]
  by_contra hne
  simp only [show a.toNat ≤ 65534 by omega, if_true] at h
  revert h
  repeat' split
  all_goals simp

theorem busWrite_ie {a : Word} (h : a ≠ 0xFFFF) (v : Byte) (s : State) : (busWrite a v s).ie = s.ie := by
  unfold busWrite
  split
  · rfl
  · cases hr : regionOf a
    case cartRam => simp only; split <;> rfl
    case io => show (ioWrite a v s).ie = s.ie; rw [ioWrite_state]
    case ie => exact absurd (regionOf_eq_ie hr) h
    all_goals rfl

/-- An I/O write other than to the DMA register keeps all of memory. -/
theorem ioWrite_mem {a : Word} (h : a ≠ 0xFF46) (v : Byte) (s : State) : (ioWrite a v s).mem = s.mem := by
  unfold ioWrite
  split
  case h_6 => exact writeLcdc_mem v s
  case h_11 => rename_i ha; exact absurd (BitVec.eq_of_toNat_eq ha) h
  case h_17 => split <;> rfl
  all_goals rfl

/-- A write keeps every byte of memory but the home of its address and, for the DMA register, OAM (20 R62, R72). -/
theorem busWrite_read (a : Word) (v : Byte) (s : State) {k : Nat} (hk : k ≠ homeKey a)
    (hd : a = 0xFF46 → k < 0xFE00 ∨ 0xFE9F < k) : (busWrite a v s).mem.read k = s.mem.read k := by
  have hs : (storeByte a v s).mem.read k = s.mem.read k := Memory.read_write_of_ne _ _ hk
  unfold busWrite
  split
  · rfl
  · cases hr : regionOf a
    case cartRam => simp only; split <;> first | rfl | exact hs
    case io =>
      simp only
      by_cases ha : a = 0xFF46
      · subst ha
        exact dmaWrite_read v s (hd rfl)
      · rw [ioWrite_mem ha]
    all_goals first | rfl | exact hs

end Sys2Proof.Machine
end

