-- ==== Sys2Proof/Laws/Decode.lean ====
section
/-! SUPPORT. The decoding tables have every cell, so no default of the decoder is ever taken. -/

namespace Sys2Proof

/-- Sixteen rows, each of sixteen cells (spec 30 R110). -/
theorem primaryTable_full (n h : Byte) :
    (primaryTable n h).length = 16 ∧ ∀ row ∈ primaryTable n h, row.length = 16 := by
  refine ⟨rfl, ?_⟩
  unfold primaryTable
  simp only [List.forall_mem_cons, List.not_mem_nil, IsEmpty.forall_iff, implies_true, and_true]
  exact ⟨rfl, rfl, rfl, rfl, rfl, rfl, rfl, rfl, rfl, rfl, rfl, rfl, rfl, rfl, rfl, rfl⟩

/-- Four groups of eight rows, each of eight cells (spec 30 R111). -/
theorem cbTables_full :
    ∀ group ∈ [cbTable0, cbTable1, cbTable2, cbTable3], group.length = 8 ∧ ∀ row ∈ group, row.length = 8 := by
  decide

/-- Every length is 1, 2 or 3 (spec 30 R103). -/
theorem opLength_cases (o : Byte) : opLength o = 1 ∨ opLength o = 2 ∨ opLength o = 3 := by
  unfold opLength
  split
  · exact .inr (.inr rfl)
  · split
    · exact .inr (.inl rfl)
    · exact .inl rfl

/-- The second table's row for a CB byte is the group of its two high bits (spec 30 R111). -/
theorem decodeInstr_cb (c x : Byte) : decodeInstr 0xCB c x = decodeCb c := rfl

end Sys2Proof
end

