-- ==== Sys2Proof/Laws/Devices.lean ====
section
/-! SUPPORT. Everything the end of a Step can do to the machine: each device changes its own registers and IF only. -/

namespace Sys2Proof.Machine

theorem timerSubStep_state (s : State) :
    timerSubStep s = { s with ifr := (timerSubStep s).ifr, timer := s.timer.reload.count } := rfl

/-- The timer changes IF and its own registers only (61 R357). -/
theorem timerTick_state (n : Nat) (s : State) :
    timerTick n s = { s with ifr := (timerTick n s).ifr, timer := (timerTick n s).timer } := by
  refine repeatN_keeps timerSubStep (fun t => t = { s with ifr := t.ifr, timer := t.timer }) ?_ (n / 4) rfl
  intro t h
  rw [h]
  rfl

/-- The timer's registers move by themselves, whatever the rest of the machine is. -/
theorem timerTick_timer (n : Nat) (s : State) :
    (timerTick n s).timer = repeatN (fun t => t.reload.count) (n / 4) s.timer := by
  unfold timerTick
  generalize n / 4 = k
  induction k generalizing s with
  | zero => rfl
  | succ k ih => exact ih (timerSubStep s)

theorem updateStatLine_state (s : State) :
    updateStatLine s = { s with
      ifr := (updateStatLine s).ifr, ppu := { s.ppu with statLine := s.ppu.statLevel } } := rfl

/-- A PPU clock changes IF and the PPU only (62 R389). -/
theorem ppuClock_state (s : State) : ppuClock s = { s with ifr := (ppuClock s).ifr, ppu := (ppuClock s).ppu } := by
  unfold ppuClock
  simp only
  split <;> rfl

theorem ppuCatchUp_state (n : Nat) (s : State) :
    ppuCatchUp n s = { s with ifr := (ppuCatchUp n s).ifr, ppu := (ppuCatchUp n s).ppu } := by
  unfold ppuCatchUp
  split
  · refine repeatN_keeps ppuClock (fun t => t = { s with ifr := t.ifr, ppu := t.ppu }) ?_ n rfl
    intro t h
    have hc := ppuClock_state t
    generalize ppuClock t = u at hc ⊢
    rw [hc, h]
  · rfl

/-- The hand-off after a Step changes IF, the timer, the PPU and the tracked DMA count only (40 R127). -/
theorem handOff_state (s : State) :
    handOff s = { s with
      ifr := (handOff s).ifr, timer := (timerTick s.clocks s).timer, ppu := (handOff s).ppu
      dmaBusy := s.dmaBusy - s.clocks } := by
  have h1 := timerTick_state s.clocks s
  have h2 := ppuCatchUp_state s.clocks (timerTick s.clocks s)
  have h3 : handOff s = { ppuCatchUp s.clocks (timerTick s.clocks s) with
      dmaBusy := (ppuCatchUp s.clocks (timerTick s.clocks s)).dmaBusy - s.clocks } := rfl
  generalize handOff s = v at h3 ⊢
  generalize timerTick s.clocks s = t at *
  generalize ppuCatchUp s.clocks t = u at *
  rw [h3, h2, h1]

end Sys2Proof.Machine
end

