-- ==== Sys2Proof/Laws/Exec.lean ====
section
/-! SUPPORT. What `exec` is on each instruction form: one equation per form, to its shared meaning. -/

namespace Sys2Proof.Machine

theorem exec_ldReg (dst src : R8) (s : State) : exec (Form.ldReg dst src) s = .next (ldReg dst src s) := by
  cases dst <;> cases src <;> rfl

theorem exec_ldImm (dst : R8) (n : Byte) (s : State) : exec (Form.ldImm dst n) s = .next (ldRegImm dst n s) := by
  cases dst <;> rfl

theorem exec_ldFromHl (dst : R8) (s : State) : exec (Form.ldFromHl dst) s = .next (ldRegHl dst s) := by
  cases dst <;> rfl

theorem exec_ldToHl (src : R8) (s : State) : exec (Form.ldToHl src) s = .next (ldHlReg src s) := by
  cases src <;> rfl

theorem hiByte_getHl (s : State) : hiByte (getHl s) = s.regs.h := hiByte_join _ _

theorem loByte_getHl (s : State) : loByte (getHl s) = s.regs.l := loByte_join _ _

/-- Stepping HL by 0 is no step. -/
theorem stepHl_zero (s : State) : stepHl 0 s = s := by
  unfold stepHl setHl
  rw [show getHl s + 0 = getHl s from BitVec.add_zero _, hiByte_getHl, loByte_getHl]

theorem exec_loadA (m : AForm) (s : State) :
    exec (Form.loadA m) s = .next (stepHl m.hlStep (ldAFrom (m.address s) s)) := by
  cases m
  case hlInc | hlDec => rfl
  all_goals rw [show AForm.hlStep _ = 0 from rfl, stepHl_zero]; rfl

theorem exec_storeA (m : AForm) (s : State) :
    exec (Form.storeA m) s = .next (stepHl m.hlStep (ldAtA (m.address s) s)) := by
  cases m
  case hlInc | hlDec => rfl
  all_goals rw [show AForm.hlStep _ = 0 from rfl, stepHl_zero]; rfl

theorem exec_ldPair (p : R16) (nn : Word) (s : State) : exec (Form.ldPair p nn) s = .next (setR16 p nn s) := by
  cases p <;> rfl

theorem exec_push (p : R16Stack) (s : State) : exec (Form.push p) s = .next (pushPair p s) := by
  cases p <;> rfl

theorem exec_pop (p : R16Stack) (s : State) : exec (Form.pop p) s = .next (popPair p s) := by
  cases p <;> rfl

theorem exec_aluReg (op : AluOp) (r : R8) (s : State) : exec (Form.alu op (.reg r)) s = .next (aluReg op r s) := by
  cases op <;> cases r <;> rfl

theorem exec_aluHl (op : AluOp) (s : State) : exec (Form.alu op .atHl) s = .next (aluHl op s) := by
  cases op <;> rfl

theorem exec_aluImm (op : AluOp) (n : Byte) (s : State) : exec (Form.alu op (.imm n)) s = .next (aluOn op n s) := by
  cases op <;> rfl

theorem setF_setR8_a (v w : Byte) (s : State) :
    setF w (setR8 .a v s) = { s with regs := { s.regs with a := v, f := w &&& 0xF0 } } := rfl

/-- The three operand forms of an 8-bit operation at once: A and F from the operand's value, the operand's clocks, and
the count of free bytes. -/
theorem exec_alu (op : AluOp) (x : Src8) (s : State) :
    ∃ drawn, exec (Form.alu op x) s = .next { s with
      regs := { s.regs with
        a := (aluResult op s.regs.a (x.value s) (flagC s)).1
        f := (aluResult op s.regs.a (x.value s) (flagC s)).2 &&& 0xF0 }
      clocks := s.clocks + x.clocks
      draws := drawn } := by
  cases x with
  | reg r => exact ⟨s.draws, exec_aluReg op r s⟩
  | imm n => exact ⟨s.draws, exec_aluImm op n s⟩
  | atHl =>
    refine ⟨(busRead (getHl s) s).2.draws, ?_⟩
    rw [exec_aluHl]
    unfold aluHl
    rw [memRead_eq]
    rfl

theorem exec_incReg (r : R8) (s : State) : exec (Form.incReg r) s = .next (incReg r s) := by
  cases r <;> rfl

theorem exec_decReg (r : R8) (s : State) : exec (Form.decReg r) s = .next (decReg r s) := by
  cases r <;> rfl

theorem exec_addHl (p : R16) (s : State) : exec (Form.addHl p) s = .next (addHlPair p s) := by
  cases p <;> rfl

theorem exec_incPair (p : R16) (s : State) : exec (Form.incPair p) s = .next (stepPair p 1 s) := by
  cases p <;> rfl

theorem exec_decPair (p : R16) (s : State) : exec (Form.decPair p) s = .next (stepPair p (-1) s) := by
  cases p <;> rfl

theorem exec_shiftReg (op : ShiftOp) (r : R8) (s : State) :
    exec (Form.shift op (.reg r)) s = .next (shiftReg op r s) := by
  cases op <;> cases r <;> rfl

theorem exec_shiftHl (op : ShiftOp) (s : State) : exec (Form.shift op .atHl) s = .next (shiftHl op s) := by
  cases op <;> rfl

theorem forall_fin8 {P : Fin 8 → Prop} (h0 : P 0) (h1 : P 1) (h2 : P 2) (h3 : P 3) (h4 : P 4) (h5 : P 5) (h6 : P 6)
    (h7 : P 7) : ∀ b, P b := by
  intro b
  fin_cases b <;> assumption

theorem exec_bitReg (b : Fin 8) (r : R8) (s : State) : exec (Form.bit b (.reg r)) s = .next (bitReg b r s) := by
  revert b; refine forall_fin8 ?_ ?_ ?_ ?_ ?_ ?_ ?_ ?_ <;> cases r <;> rfl

theorem exec_bitHl (b : Fin 8) (s : State) : exec (Form.bit b .atHl) s = .next (bitHl b s) := by
  revert b; refine forall_fin8 ?_ ?_ ?_ ?_ ?_ ?_ ?_ ?_ <;> rfl

theorem exec_resReg (b : Fin 8) (r : R8) (s : State) : exec (Form.res b (.reg r)) s = .next (resReg b r s) := by
  revert b; refine forall_fin8 ?_ ?_ ?_ ?_ ?_ ?_ ?_ ?_ <;> cases r <;> rfl

theorem exec_resHl (b : Fin 8) (s : State) : exec (Form.res b .atHl) s = .next (resHl b s) := by
  revert b; refine forall_fin8 ?_ ?_ ?_ ?_ ?_ ?_ ?_ ?_ <;> rfl

theorem exec_setReg (b : Fin 8) (r : R8) (s : State) : exec (Form.set b (.reg r)) s = .next (setReg b r s) := by
  revert b; refine forall_fin8 ?_ ?_ ?_ ?_ ?_ ?_ ?_ ?_ <;> cases r <;> rfl

theorem exec_setHl (b : Fin 8) (s : State) : exec (Form.set b .atHl) s = .next (setHlBit b s) := by
  revert b; refine forall_fin8 ?_ ?_ ?_ ?_ ?_ ?_ ?_ ?_ <;> rfl

theorem exec_jpIf (cc : Cond) (nn : Word) (s : State) : exec (Form.jpIf cc nn) s = .next (jumpIf cc nn s) := by
  cases cc <;> rfl

theorem exec_jrIf (cc : Cond) (e : Byte) (s : State) : exec (Form.jrIf cc e) s = .next (jumpByIf cc e s) := by
  cases cc <;> rfl

theorem exec_callIf (cc : Cond) (nn : Word) (s : State) : exec (Form.callIf cc nn) s = .next (callIf cc nn s) := by
  cases cc <;> rfl

theorem exec_retIf (cc : Cond) (s : State) : exec (Form.retIf cc) s = .next (returnIf cc s) := by
  cases cc <;> rfl

theorem exec_rst (t : Fin 8) (s : State) : exec (Form.rst t) s = .next (callTo (rstTarget t) s) := by
  revert t; refine forall_fin8 ?_ ?_ ?_ ?_ ?_ ?_ ?_ ?_ <;> rfl

/-! ## The read-modify-write forms at (HL) -/

/-- A read at HL and then a write at HL is the router's read and write and 8 clocks (00 R9). -/
theorem memWrite_memRead (a : Word) (v : Byte) (s : State) :
    memWrite a v (memRead a s).2 = { busWrite a v (busRead a s).2 with clocks := s.clocks + 8 } := by
  have e : (memRead a s).2 = (busRead a s).2.withCpu { s.cpu with clocks := s.clocks + 4 } := by
    rw [memRead_eq, busRead_state]
    rfl
  have h := busWrite_withCpu a v { s.cpu with clocks := s.clocks + 4 } (busRead a s).2
  have h' : (busWrite a v (busRead a s).2).cpu = s.cpu := by
    rw [busWrite_cpu, busRead_state]
    rfl
  rw [memWrite_eq, e, h]
  generalize busWrite a v (busRead a s).2 = u at h' ⊢
  have hu : u = u.withCpu s.cpu := by rw [← h']; rfl
  rw [hu]
  rfl

end Sys2Proof.Machine
end

