-- ==== Sys2Proof/Laws/Flags.lean ====
section
/-! SUPPORT. The flags that each result computation packs. -/

namespace Sys2Proof.Machine

/-- A packed F is its four flags. -/
theorem FlagsAre_packF (z n h c : Bool) : FlagsAre (packF z n h c) z n h c := by
  cases z <;> cases n <;> cases h <;> cases c <;> exact ⟨rfl, rfl, rfl, rfl, rfl⟩

/-- F after it is written with packed flags is those flags. -/
theorem FlagsAre_masked (z n h c : Bool) : FlagsAre (packF z n h c &&& 0xF0) z n h c := by
  rw [packF_masked]
  exact FlagsAre_packF z n h c

/-- A byte is zero exactly when its number is. -/
theorem byte_beq_zero (v : Byte) : (v == 0) = decide (v.toNat = 0) := by
  rw [Bool.eq_iff_iff, beq_iff_eq, decide_eq_true_iff]
  exact ⟨fun h => h ▸ rfl, fun h => BitVec.eq_of_toNat_eq h⟩

theorem bitNat_eq (b : Bool) : bitNat b = if b = true then 1 else 0 := rfl

/-- The number of a bit is the bit. -/
theorem getLsbD_eq_decide (v : Byte) (b : Nat) : v.getLsbD b = decide (v.toNat / 2 ^ b % 2 = 1) := by
  rw [BitVec.getLsbD, Nat.testBit_eq_decide_div_mod_eq]

end Sys2Proof.Machine
end

