-- ==== Sys2Proof/Laws/Interrupts.lean ====
section
/-! SUPPORT. Everything interrupt dispatch can do: nothing, a wake-up, or the entry; and what the entry is. -/

namespace Sys2Proof.Machine

/-- Taking an interrupt: IME and the request are cleared, PC is pushed, PC is the vector, 20 clocks (60 R325). -/
theorem takeInterrupt_eq (n : Nat) (s : State) :
    takeInterrupt n s =
      { pushedState s.pc { s with ime := false, ifr := s.ifr &&& ~~~(1#5 <<< n) } with
        pc := interruptVector n, clocks := s.clocks + 20 } := by
  let s' : State := { s with ime := false, ifr := s.ifr &&& ~~~(1#5 <<< n) }
  let w := busWrite (s.sp - 1 - 1) (loByte s.pc) (busWrite (s.sp - 1) (hiByte s.pc) s')
  have hw : w = w.withCpu s'.cpu := State.eq_withCpu ((busWrite_cpu ..).trans (busWrite_cpu ..))
  have hp : push16 s.pc (s'.withCpu { s'.cpu with clocks := s.clocks + 8 })
      = w.withCpu { s'.cpu with sp := s.sp - 1 - 1, clocks := s.clocks + 8 + 8 } := push16_withCpu _ _ _
  have h2 : s.sp - 2 = s.sp - 1 - 1 := by rw [BitVec.sub_sub]; rfl
  have hq : pushedState s.pc s' = { w with sp := s.sp - 1 - 1 } := by
    show ({ busWrite (s.sp - 2) (loByte s.pc) (busWrite (s.sp - 1) (hiByte s.pc) s') with sp := s.sp - 2 } : State) = _
    rw [h2]
  have ht : takeInterrupt n s =
      internal { push16 s.pc (s'.withCpu { s'.cpu with clocks := s.clocks + 8 }) with pc := interruptVector n } := rfl
  rw [ht, hp, hq, hw]
  rfl

/-- With nothing pending, dispatch does nothing (60 R321). -/
theorem interruptDispatch_idle {s : State} (h : pendingInterrupts s = 0) (b : Bool) : interruptDispatch b s = s := by
  unfold interruptDispatch
  simp only [h, if_true]

/-- With something pending and IME clear at entry, dispatch only ends a halt (60 R322). -/
theorem interruptDispatch_wake {s : State} (h : pendingInterrupts s ≠ 0) :
    interruptDispatch false s = { s with halt := false } := by
  unfold interruptDispatch
  simp only [h, if_false]
  rfl

/-- With something pending and IME set at entry, dispatch is the entry of the lowest pending interrupt (60 R324). -/
theorem interruptDispatch_take {s : State} (h : pendingInterrupts s ≠ 0) :
    interruptDispatch true s = takeInterrupt (lowestPending (pendingInterrupts s)) { s with halt := false } := by
  unfold interruptDispatch
  simp only [h, if_false]
  rfl

/-- The lowest pending interrupt is pending, and none below it is. -/
theorem lowestPending_spec (p : BitVec 5) (h : p ≠ 0) :
    lowestPending p < 5 ∧ p.getLsbD (lowestPending p) = true ∧ ∀ m < lowestPending p, p.getLsbD m = false := by
  revert h; revert p; decide

/-- Everything dispatch can do (60 R321 to R325). -/
theorem interruptDispatch_cases (b : Bool) (s : State) :
    interruptDispatch b s = s ∨ interruptDispatch b s = { s with halt := false }
      ∨ (b = true ∧ pendingInterrupts s ≠ 0
        ∧ interruptDispatch b s = takeInterrupt (lowestPending (pendingInterrupts s)) { s with halt := false }) := by
  by_cases h : pendingInterrupts s = 0
  · exact .inl (interruptDispatch_idle h b)
  · cases b
    · exact .inr (.inl (interruptDispatch_wake h))
    · exact .inr (.inr ⟨rfl, h, interruptDispatch_take h⟩)

end Sys2Proof.Machine
end

