-- ==== Sys2Proof/Laws/Mode3.lean ====
section
/-! SUPPORT. Mode 3 clock by clock: what the fetcher, the compositor, the window and the sprites can do, and a run of tile
rows in closed form. -/

namespace Sys2Proof.Machine

/-- The registers that mode 3 reads but never writes, and the shape they give to a run of tile rows: `q` is `p` but for
mode, frame buffer and line. -/
def Ppu.sameScreen (p q : Ppu) : Prop :=
  q = { p with mode := q.mode, fb := q.fb, line := q.line } ∧ q.line.inWindow = p.line.inWindow

/-- The number of the tile in column `c` of the row that the fetcher reads. -/
def Ppu.tileAt (mem : Memory) (p : Ppu) (c : Nat) : Byte :=
  mem.read ((if p.line.inWindow then (if p.lcdc.getLsbD 6 then 0x9C00 else 0x9800) + 32 * (p.fetchY.toNat / 8) + c
    else (if p.lcdc.getLsbD 3 then 0x9C00 else 0x9800) + 32 * (p.fetchY.toNat / 8) + (p.scx.toNat / 8 + c) % 32))

/-- The address of the first byte of the row shown of that tile. -/
def Ppu.rowAddr (mem : Memory) (p : Ppu) (c : Nat) : Nat :=
  (if p.lcdc.getLsbD 4 then 0x8000 + 16 * (p.tileAt mem c).toNat
   else (0x9000 + 16 * (p.tileAt mem c).toInt).toNat) + 2 * (p.fetchY.toNat % 8)

/-- Pixel `j` of the endless row that the fetcher pushes, tile after tile. -/
def Ppu.rowPixel (mem : Memory) (p : Ppu) (j : Nat) : Pixel :=
  { colorIndex :=
      if p.lcdc.getLsbD 0 then
        colorAt (mem.read (p.rowAddr mem (j / 8) + 1)) (mem.read (p.rowAddr mem (j / 8))) (7 - j % 8) else 0
    sourceKind := if p.line.inWindow then .window else .background
    paletteSelect := false
    priority := false }

/-- The fetcher `n` clocks after its start in tile column 0: four steps of two clocks for each tile. -/
def Ppu.fetching (mem : Memory) (p : Ppu) (n : Nat) (l : Line) : Prop :=
  l.fphase = decide (n % 2 = 1)
  ∧ l.fstate = [.tileIndex, .dataLow, .dataHigh, .push].getD (n % 8 / 2) .push
  ∧ l.tileCol.val = n / 8
  ∧ (2 ≤ n % 8 → l.tileIndex = p.tileAt mem (n / 8))
  ∧ (4 ≤ n % 8 → l.dataLow = mem.read (p.rowAddr mem (n / 8)))
  ∧ (6 ≤ n % 8 → l.dataHigh = mem.read (p.rowAddr mem (n / 8) + 1))

/-- The eight pixels pushed are the next eight of the run (62 R411, R414). -/
theorem tilePixels_eq {mem : Memory} {p q : Ppu} (hs : p.sameScreen q) {c : Nat}
    (hl : q.line.dataLow = mem.read (p.rowAddr mem c)) (hh : q.line.dataHigh = mem.read (p.rowAddr mem c + 1)) :
    q.tilePixels = (List.range' (8 * c) 8).map (p.rowPixel mem) := by
  have e : ∀ k < 8, p.rowPixel mem (8 * c + k) =
      { colorIndex := if q.lcdc.getLsbD 0 then colorAt q.line.dataHigh q.line.dataLow (7 - k) else 0
        sourceKind := if q.line.inWindow then .window else .background
        paletteSelect := false, priority := false } := by
    intro k hk
    have h1 : (8 * c + k) / 8 = c := by omega
    have h2 : (8 * c + k) % 8 = k := by omega
    rw [hs.2, hl, hh, show q.lcdc = p.lcdc by rw [hs.1]]
    simp only [Ppu.rowPixel, h1, h2]
  simp only [Ppu.tilePixels, List.range', List.map_cons, List.map_nil]
  rw [show 8 * c = 8 * c + 0 from rfl, e 0 (by omega)]
  simp only [Nat.add_assoc, Nat.zero_add, Nat.reduceAdd]
  rw [e 1 (by omega), e 2 (by omega), e 3 (by omega), e 4 (by omega), e 5 (by omega), e 6 (by omega), e 7 (by omega)]

/-- One clock of the fetcher: it is one clock further, and on the eighth clock of a tile, if there is room, its eight pixels
stand at the end of the FIFO; nothing else changes. -/
theorem fetcherClock_fetching {mem : Memory} {p q : Ppu} {n : Nat} (hs : p.sameScreen q) (hf : p.fetching mem n q.line)
    (hn : n < 248) (hroom : n % 8 = 7 → q.line.fifo.length ≤ 8) :
    p.sameScreen (q.fetcherClock mem) ∧ p.fetching mem (n + 1) (q.fetcherClock mem).line
    ∧ q.fetcherClock mem = { q with line := { (q.fetcherClock mem).line with
        lx := q.line.lx, discard := q.line.discard, stall := q.line.stall
        fifo := q.line.fifo ++ if n % 8 = 7 then (List.range' (8 * (n / 8)) 8).map (p.rowPixel mem) else [] } } := by
  obtain ⟨h1, h2, h3, h4, h5, h6⟩ := hf
  have hlcdc : q.lcdc = p.lcdc := by rw [hs.1]
  have hscx : q.scx = p.scx := by rw [hs.1]
  have hscy : q.scy = p.scy := by rw [hs.1]
  have hly : q.ly = p.ly := by rw [hs.1]
  have hwy : q.wy = p.wy := by rw [hs.1]
  obtain ⟨m, hm⟩ : ∃ m, m = n / 8 := ⟨_, rfl⟩
  rw [← hm] at h3 h4 h5 h6 ⊢
  have hmap : vramByte mem ({ q with line := { q.line with fphase := !q.line.fphase } } : Ppu).mapAddr = p.tileAt mem m := by
    simp only [Ppu.mapAddr, Ppu.tileAt, vramByte, Ppu.fetchY, hs.2, h3, hlcdc, hscx, hscy, hly, hwy]
  have hdat : q.line.tileIndex = p.tileAt mem m →
      ({ q with line := { q.line with fphase := !q.line.fphase } } : Ppu).dataAddr = p.rowAddr mem m := by
    intro ht
    simp only [Ppu.dataAddr, Ppu.rowAddr, Ppu.fetchY, hs.2, ht, hlcdc, hscy, hly, hwy]
  obtain ⟨hrest, hwin⟩ := hs
  have hlt := Nat.mod_lt n (show 0 < 8 by omega)
  unfold Ppu.fetching Ppu.sameScreen
  rcases Nat.mod_two_eq_zero_or_one n with hpar | hpar
  · -- the first clock of a step: the phase alone
    have hq : q.fetcherClock mem = { q with line := { q.line with fphase := true } } := by
      simp [Ppu.fetcherClock, h1, hpar]
    rw [hq]
    have e1 : (n + 1) / 8 = m := by omega
    have e2 : (n + 1) % 8 / 2 = n % 8 / 2 := by omega
    refine ⟨⟨by rw [hrest], hwin⟩, ⟨by simp; omega, by rw [e2]; exact h2, by rw [e1]; exact h3, ?_, ?_, ?_⟩, ?_⟩
    · intro h; rw [e1]; exact h4 (by omega)
    · intro h; rw [e1]; exact h5 (by omega)
    · intro h; rw [e1]; exact h6 (by omega)
    · rw [if_neg (by omega), List.append_nil]
  · have hq : q.fetcherClock mem =
        ({ q with line := { q.line with fphase := !q.line.fphase } } : Ppu).fetcherStep mem := by
      simp [Ppu.fetcherClock, h1, hpar]
    have hph : (!q.line.fphase) = false := by simp [h1, hpar]
    have hcase : n % 8 = 1 ∨ n % 8 = 3 ∨ n % 8 = 5 ∨ n % 8 = 7 := by omega
    rcases hcase with hr | hr | hr | hr
    all_goals rw [hr] at h2 h4 h5 h6 hroom
    · have hst : q.line.fstate = .tileIndex := h2
      have hq' : q.fetcherClock mem =
          { q with line := { q.line with fphase := false, tileIndex := p.tileAt mem m, fstate := .dataLow } } := by
        rw [hq]
        simp only [Ppu.fetcherStep, hst, hph] at hmap ⊢
        rw [hmap]
      rw [hq']
      have e1 : (n + 1) / 8 = m := by omega
      have e2 : (n + 1) % 8 = 2 := by omega
      rw [e1, e2, hr]
      exact ⟨⟨by rw [hrest], hwin⟩, ⟨by simp; omega, rfl, h3, fun _ => rfl, by omega, by omega⟩,
        by rw [if_neg (by omega), List.append_nil]⟩
    · have hst : q.line.fstate = .dataLow := h2
      have hq' : q.fetcherClock mem =
          { q with line := { q.line with
              fphase := false, dataLow := mem.read (p.rowAddr mem m), fstate := .dataHigh } } := by
        rw [hq]
        have hd := hdat (h4 (by omega))
        simp only [Ppu.fetcherStep, hst, hph] at hd ⊢
        rw [hd]
        rfl
      rw [hq']
      have e1 : (n + 1) / 8 = m := by omega
      have e2 : (n + 1) % 8 = 4 := by omega
      rw [e1, e2, hr]
      exact ⟨⟨by rw [hrest], hwin⟩, ⟨by simp; omega, rfl, h3, fun _ => h4 (by omega), fun _ => rfl, by omega⟩,
        by rw [if_neg (by omega), List.append_nil]⟩
    · have hst : q.line.fstate = .dataHigh := h2
      have hq' : q.fetcherClock mem =
          { q with line := { q.line with
              fphase := false, dataHigh := mem.read (p.rowAddr mem m + 1), fstate := .push } } := by
        rw [hq]
        have hd := hdat (h4 (by omega))
        simp only [Ppu.fetcherStep, hst, hph] at hd ⊢
        rw [hd]
        rfl
      rw [hq']
      have e1 : (n + 1) / 8 = m := by omega
      have e2 : (n + 1) % 8 = 6 := by omega
      rw [e1, e2, hr]
      exact ⟨⟨by rw [hrest], hwin⟩,
        ⟨by simp; omega, rfl, h3, fun _ => h4 (by omega), fun _ => h5 (by omega), fun _ => rfl⟩,
        by rw [if_neg (by omega), List.append_nil]⟩
    · have hst : q.line.fstate = .push := h2
      have htp : ({ q with line := { q.line with fphase := false } } : Ppu).tilePixels
          = (List.range' (8 * m) 8).map (p.rowPixel mem) :=
        tilePixels_eq ⟨hrest, hwin⟩ (h5 (by omega)) (h6 (by omega))
      have hq' : q.fetcherClock mem =
          { q with line := { q.line with
              fphase := false
              fifo := q.line.fifo ++ (List.range' (8 * m) 8).map (p.rowPixel mem)
              tileCol := q.line.tileCol + 1, fstate := .tileIndex } } := by
        rw [hq]
        simp only [Ppu.fetcherStep, hst, if_pos (hroom rfl), hph]
        rw [← htp]
        rfl
      rw [hq']
      have e1 : (n + 1) / 8 = m + 1 := by omega
      have e2 : (n + 1) % 8 = 0 := by omega
      rw [e1, e2, hr]
      refine ⟨⟨by rw [hrest], hwin⟩, ⟨by simp; omega, rfl, ?_, by omega, by omega, by omega⟩, by rw [if_pos rfl]⟩
      show (q.line.tileCol + 1).val = m + 1
      rw [Fin.val_add, h3]
      show (m + 1) % 32 = m + 1
      omega

/-- What a run of tile rows has written so far: the pixels after the discarded ones, from where it started up to LX. -/
def Ppu.painted (mem : Memory) (p q : Ppu) : Prop :=
  p.fb.wf → q.fb.wf ∧ ∀ k, q.fb.read k =
    if 160 * p.ly.toNat + p.line.lx ≤ k ∧ k < 160 * p.ly.toNat + q.line.lx then
      p.shade (p.rowPixel mem (k - (160 * p.ly.toNat + p.line.lx) + p.line.discard))
    else p.fb.read k

/-- A run of tile rows `n` clocks after its start, no sprite or window between: after 16 clocks one pixel leaves the FIFO
each clock. -/
def Ppu.running (mem : Memory) (p : Ppu) (n : Nat) (q : Ppu) : Prop :=
  p.sameScreen q ∧ p.fetching mem n q.line ∧ q.mode = .transfer ∧ q.line.stall = 0
  ∧ q.line.fifo = (List.range' (n - 16) (8 * (n / 8) - (n - 16))).map (p.rowPixel mem)
  ∧ q.line.discard = p.line.discard - (n - 16)
  ∧ q.line.lx = p.line.lx + (n - 16 - p.line.discard)
  ∧ p.painted mem q

/-- Eight more pixels at the end of the FIFO on the last clock of a tile. -/
theorem range'_push {a n : Nat} (h : a ≤ 8 * (n / 8)) :
    List.range' a (8 * (n / 8) - a) ++ (if n % 8 = 7 then List.range' (8 * (n / 8)) 8 else [])
      = List.range' a (8 * ((n + 1) / 8) - a) := by
  split
  · rw [show List.range' (8 * (n / 8)) 8 = List.range' (a + 1 * (8 * (n / 8) - a)) 8 by
      rw [show a + 1 * (8 * (n / 8) - a) = 8 * (n / 8) by omega],
      List.range'_append, show 8 * (n / 8) - a + 8 = 8 * ((n + 1) / 8) - a by omega]
  · rw [List.append_nil, show (n + 1) / 8 = n / 8 by omega]

/-- The state that the compositor leaves to the fetcher on clock `n`: one pixel fewer, if the run pops by then. -/
theorem running_fetch {mem : Memory} {p q : Ppu} {n : Nat} (hs : p.sameScreen q) (hf : p.fetching mem n q.line)
    (hn : n < 248) (hm : q.mode = .transfer) (hst : q.line.stall = 0)
    (hq : q.line.fifo = (List.range' (n + 1 - 16) (8 * (n / 8) - (n + 1 - 16))).map (p.rowPixel mem))
    (hd : q.line.discard = p.line.discard - (n + 1 - 16))
    (hx : q.line.lx = p.line.lx + (n + 1 - 16 - p.line.discard)) (hp : p.painted mem q) :
    p.running mem (n + 1) (q.fetcherClock mem) := by
  obtain ⟨h1, h2, h3⟩ := fetcherClock_fetching hs hf hn
    (by rw [hq, List.length_map, List.length_range']; omega)
  have hl : (q.fetcherClock mem).line.lx = q.line.lx := by rw [h3]
  refine ⟨h1, h2, by rw [h3]; exact hm, by rw [h3]; exact hst, ?_, by rw [h3]; exact hd, by rw [h3]; exact hx, ?_⟩
  · rw [h3]
    show q.line.fifo ++ _ = _
    rw [hq, ← range'_push (by omega), List.map_append]
    split <;> rfl
  · intro hw
    obtain ⟨ha, hb⟩ := hp hw
    rw [hl, show (q.fetcherClock mem).fb = q.fb by rw [h3]]
    exact ⟨ha, hb⟩

/-- Outputting the next pixel of the run extends what it has written by one column (62 R430). -/
theorem outputPixel_painted {mem : Memory} {p q : Ppu} (hs : p.sameScreen q) (hp : p.painted mem q)
    (hx : p.line.lx ≤ q.line.lx) (rest : List Pixel) :
    p.painted mem (q.outputPixel (p.rowPixel mem (q.line.lx - p.line.lx + p.line.discard)) rest) := by
  intro hw
  obtain ⟨ha, hb⟩ := hp hw
  have hly : q.ly = p.ly := by rw [hs.1]
  have hsh : ∀ px, q.shade px = p.shade px := by intro px; rw [hs.1]; rfl
  refine ⟨Memory.wf_write ha _ _, fun k => ?_⟩
  simp only [Ppu.outputPixel, hly, hsh]
  by_cases hk : k = 160 * p.ly.toNat + q.line.lx
  · rw [hk, Memory.read_write_same ha, if_pos (by omega)]
    congr 2
    omega
  · rw [Memory.read_write_of_ne _ _ hk, hb]
    by_cases hc : 160 * p.ly.toNat + p.line.lx ≤ k ∧ k < 160 * p.ly.toNat + q.line.lx
    · rw [if_pos hc, if_pos (by omega)]
    · rw [if_neg hc, if_neg (by omega)]

/-- One clock of a run on which the line does not end and no window starts. -/
theorem mode3Clock_running {mem : Memory} {sfc : Nat} {p q : Ppu} {n : Nat} (h : p.running mem n q)
    (hspr : p.lcdc.getLsbD 1 = false) (hwin : 16 ≤ n → q.windowStarts = false) (hn : n < 248)
    (hx : 16 + p.line.discard ≤ n → q.line.lx < 159) : p.running mem (n + 1) (q.mode3Clock mem sfc) := by
  obtain ⟨hs, hf, hm, hst, hq, hd, hlx, hp⟩ := h
  have hlen : q.line.fifo.length = 8 * (n / 8) - (n - 16) := by rw [hq, List.length_map, List.length_range']
  by_cases h16 : n < 16
  · rw [show q.mode3Clock mem sfc = q.fetcherClock mem by
      unfold Ppu.mode3Clock; rw [if_neg (by omega), if_neg (by omega)]]
    exact running_fetch hs hf hn hm hst (by rw [hq, show n + 1 - 16 = n - 16 by omega]) (by omega) (by omega) hp
  have hq' : q.line.fifo = p.rowPixel mem (n - 16)
      :: (List.range' (n + 1 - 16) (8 * (n / 8) - (n + 1 - 16))).map (p.rowPixel mem) := by
    rw [hq, show 8 * (n / 8) - (n - 16) = (8 * (n / 8) - (n + 1 - 16)) + 1 by omega, List.range'_succ, List.map_cons,
      show n - 16 + 1 = n + 1 - 16 by omega]
  by_cases hdd : q.line.discard > 0
  · rw [show q.mode3Clock mem sfc = q.dropPixel.fetcherClock mem by
      unfold Ppu.mode3Clock
      rw [if_neg (by omega), if_pos (by omega), if_neg (by rw [hwin (by omega)]; decide), if_pos hdd]]
    refine running_fetch (q := q.dropPixel) ⟨?_, hs.2⟩ hf hn hm hst ?_ ?_ ?_ hp
    · unfold Ppu.dropPixel
      rw [hs.1]
    · show q.line.fifo.tail = _
      rw [hq', List.tail_cons]
    · show q.line.discard - 1 = _
      omega
    · show q.line.lx = _
      omega
  · have hfs : q.fetchSprites mem sfc = q := by
      unfold Ppu.fetchSprites
      rw [if_neg (by rw [show q.lcdc = p.lcdc by rw [hs.1], hspr]; decide)]
    have hx' := hx (by omega)
    rw [show q.mode3Clock mem sfc = (q.outputPixel (p.rowPixel mem (n - 16))
        ((List.range' (n + 1 - 16) (8 * (n / 8) - (n + 1 - 16))).map (p.rowPixel mem))).fetcherClock mem by
      unfold Ppu.mode3Clock
      rw [if_neg (by omega), if_pos (by omega), if_neg (by rw [hwin (by omega)]; decide), if_neg hdd, hfs]
      unfold Ppu.outputClock
      rw [if_neg (by omega), hq']
      exact if_neg (by show q.line.lx + 1 ≠ 160; omega)]
    refine running_fetch (q := q.outputPixel _ _) ⟨?_, hs.2⟩ hf hn ?_ hst rfl ?_ ?_ ?_
    · unfold Ppu.outputPixel
      rw [hs.1]
    · show (if q.line.lx + 1 = 160 then PpuMode.hblank else q.mode) = .transfer
      rw [if_neg (by omega), hm]
    · show q.line.discard = _
      omega
    · show q.line.lx + 1 = _
      omega
    · have := outputPixel_painted hs hp (by omega)
        ((List.range' (n + 1 - 16) (8 * (n / 8) - (n + 1 - 16))).map (p.rowPixel mem))
      rwa [show q.line.lx - p.line.lx + p.line.discard = n - 16 by omega] at this

/-- The clock that outputs the last pixel of the line. -/
theorem mode3Clock_last {mem : Memory} {sfc : Nat} {p q : Ppu} {n : Nat} (h : p.running mem n q)
    (hspr : p.lcdc.getLsbD 1 = false) (hwin : q.windowStarts = false) (hn : 16 + p.line.discard ≤ n)
    (hx : q.line.lx = 159) :
    (q.mode3Clock mem sfc).mode = .hblank ∧ (q.mode3Clock mem sfc).line.lx = 160
    ∧ p.painted mem (q.mode3Clock mem sfc) := by
  obtain ⟨hs, hf, hm, hst, hq, hd, hlx, hp⟩ := h
  have hlen : q.line.fifo.length = 8 * (n / 8) - (n - 16) := by rw [hq, List.length_map, List.length_range']
  have hq' : q.line.fifo = p.rowPixel mem (n - 16)
      :: (List.range' (n + 1 - 16) (8 * (n / 8) - (n + 1 - 16))).map (p.rowPixel mem) := by
    rw [hq, show 8 * (n / 8) - (n - 16) = (8 * (n / 8) - (n + 1 - 16)) + 1 by omega, List.range'_succ, List.map_cons,
      show n - 16 + 1 = n + 1 - 16 by omega]
  have hfs : q.fetchSprites mem sfc = q := by
    unfold Ppu.fetchSprites
    rw [if_neg (by rw [show q.lcdc = p.lcdc by rw [hs.1], hspr]; decide)]
  rw [show q.mode3Clock mem sfc = q.outputPixel (p.rowPixel mem (n - 16))
      ((List.range' (n + 1 - 16) (8 * (n / 8) - (n + 1 - 16))).map (p.rowPixel mem)) by
    unfold Ppu.mode3Clock
    rw [if_neg (by omega), if_pos (by omega), if_neg (by rw [hwin]; decide), if_neg (by omega), hfs]
    unfold Ppu.outputClock
    rw [if_neg (by omega), hq']
    exact if_pos (by show q.line.lx + 1 = 160; omega)]
  refine ⟨?_, ?_, ?_⟩
  · show (if q.line.lx + 1 = 160 then PpuMode.hblank else q.mode) = .hblank
    rw [if_pos (by omega)]
  · show q.line.lx + 1 = 160
    omega
  · have := outputPixel_painted hs hp (by omega)
      ((List.range' (n + 1 - 16) (8 * (n / 8) - (n + 1 - 16))).map (p.rowPixel mem))
    rwa [show q.line.lx - p.line.lx + p.line.discard = n - 16 by omega] at this


/-- A run goes on until LX would pass 159, or up to the pixel before which a window starts. -/
theorem running_clocks {mem : Memory} {sfc : Nat} {p : Ppu} (h0 : p.running mem 0 p) (hspr : p.lcdc.getLsbD 1 = false)
    (hd : p.line.discard ≤ 7) {n : Nat} (hn : n < 16 ∨ p.line.lx + (n - 16 - p.line.discard) ≤ 159)
    (hwin : ∀ q : Ppu, p.sameScreen q → ∀ m, 16 ≤ m → m < n → q.line.lx = p.line.lx + (m - 16 - p.line.discard) →
      q.windowStarts = false) :
    p.running mem n (repeatN (transferClock mem sfc) n p) := by
  induction n with
  | zero => exact h0
  | succ n ih =>
    have hr := ih (by omega) (fun q hq m h16 hm => hwin q hq m h16 (by omega))
    rw [repeatN_succ']
    generalize repeatN (transferClock mem sfc) n p = q at hr ⊢
    have hm := hr.2.2.1
    have hlx := hr.2.2.2.2.2.2.1
    rw [show transferClock mem sfc q = q.mode3Clock mem sfc from if_pos hm]
    exact mode3Clock_running hr hspr (fun h16 => hwin q hr.1 n h16 (by omega) hlx) (by omega) (fun h => by omega)

/-- The state on entry to mode 3, and after the start of a window, begins a run. -/
theorem running_start {mem : Memory} {p : Ppu} (h1 : p.mode = .transfer) (h2 : p.line.stall = 0) (h3 : p.line.fifo = [])
    (h4 : p.line.fphase = false) (h5 : p.line.fstate = .tileIndex) (h6 : p.line.tileCol = 0) : p.running mem 0 p := by
  refine ⟨⟨rfl, rfl⟩, ⟨by rw [h4]; rfl, by rw [h5]; rfl, by rw [h6]; rfl, by omega, by omega, by omega⟩, h1, h2, h3, rfl,
    by omega, fun hw => ⟨hw, fun k => ?_⟩⟩
  rw [if_neg (by omega)]


/-- A colour index as a number. -/
theorem colorAt_toNat (hi lo : Byte) (bit : Nat) :
    (colorAt hi lo bit).toNat = 2 * (hi.toNat / 2 ^ bit % 2) + lo.toNat / 2 ^ bit % 2 := by
  have e : ∀ v : Byte, bitNat (v.getLsbD bit) = v.toNat / 2 ^ bit % 2 := by
    intro v
    rw [BitVec.getLsbD, Nat.testBit_eq_decide_div_mod_eq]
    unfold bitNat
    simp only [decide_eq_true_eq]
    split <;> omega
  unfold colorAt
  rw [BitVec.toNat_ofNat, e, e]
  omega

/-- A pixel's shade as a number: bits of its palette. -/
theorem shade_eq (p : Ppu) (px : Pixel) :
    p.shade px = BitVec.ofNat 8
      ((match px.sourceKind with
        | .sprite => if px.paletteSelect then p.obp1 else p.obp0
        | _ => p.bgp).toNat / 4 ^ px.colorIndex.toNat % 4) := by
  have key : ∀ (v : Byte) (c : Nat), (v >>> (2 * c)) &&& 0x3 = BitVec.ofNat 8 (v.toNat / 4 ^ c % 4) := by
    intro v c
    apply BitVec.eq_of_toNat_eq
    rw [BitVec.toNat_and, BitVec.toNat_ushiftRight, BitVec.toNat_ofNat, Nat.shiftRight_eq_div_pow, Nat.pow_mul]
    show _ &&& (2 ^ 2 - 1) = _
    rw [Nat.and_two_pow_sub_one_eq_mod]
    show v.toNat / 4 ^ c % 4 = _
    omega
  unfold Ppu.shade
  cases px.sourceKind <;> exact key _ _

/-- The address of a tile row in plain arithmetic, signed or unsigned tile numbers (62 R413). -/
theorem rowAddr_eq (mem : Memory) (p : Ppu) (c : Nat) :
    p.rowAddr mem c = (if p.lcdc.getLsbD 4 = true then 0x8000 + 16 * (p.tileAt mem c).toNat
      else 0x8800 + 16 * (((p.tileAt mem c).toNat + 128) % 256)) + 2 * (p.fetchY.toNat % 8) := by
  unfold Ppu.rowAddr
  split
  · rfl
  · have := (p.tileAt mem c).isLt
    rw [BitVec.toInt_eq_toNat_cond]
    split <;> omega

/-- The colour index of pixel `j` of a run, as a number. -/
theorem rowPixel_color (mem : Memory) (p q : Ppu) (j cell : Nat) (hl : p.lcdc = q.lcdc)
    (h : p.tileAt mem (j / 8) = mem.read cell) :
    (p.rowPixel mem j).colorIndex.toNat = tileColor mem q cell (p.fetchY.toNat % 8) (7 - j % 8) := by
  unfold Ppu.rowPixel tileColor
  simp only [rowAddr_eq, h, hl]
  split
  · exact colorAt_toNat _ _ _
  · rfl

/-- The shade of a background pixel of a run, in plain arithmetic (62 R412, R416). -/
theorem rowPixel_background {mem : Memory} {p : Ppu} (h : p.line.inWindow = false) (x : Nat) :
    p.shade (p.rowPixel mem (x + p.scx.toNat % 8)) =
      BitVec.ofNat 8 (p.bgp.toNat / 4 ^ backgroundColor mem p x % 4) := by
  have hy : p.fetchY.toNat = (p.ly.toNat + p.scy.toNat) % 256 := by
    unfold Ppu.fetchY; rw [h]; exact BitVec.toNat_add _ _
  have hs := p.scx.isLt
  rw [shade_eq, show (p.rowPixel mem (x + p.scx.toNat % 8)).sourceKind = .background by simp [Ppu.rowPixel, h]]
  simp only
  rw [rowPixel_color mem p p _ ((if p.lcdc.getLsbD 3 = true then 0x9C00 else 0x9800)
    + 32 * (p.fetchY.toNat / 8) + (p.scx.toNat + x) % 256 / 8) rfl]
  · unfold backgroundColor
    simp only
    rw [hy, show (x + p.scx.toNat % 8) % 8 = (p.scx.toNat + x) % 256 % 8 by omega]
  · unfold Ppu.tileAt
    rw [h]
    simp only [Bool.false_eq_true, if_false]
    rw [show (p.scx.toNat / 8 + (x + p.scx.toNat % 8) / 8) % 32 = (p.scx.toNat + x) % 256 / 8 by omega]

/-- The shade of a window pixel of a run, in plain arithmetic (62 R412). -/
theorem rowPixel_window {mem : Memory} {p : Ppu} (h : p.line.inWindow = true) (hw : p.wy.toNat ≤ p.ly.toNat) (x : Nat) :
    p.shade (p.rowPixel mem x) = BitVec.ofNat 8 (p.bgp.toNat / 4 ^ windowColor mem p x % 4) := by
  have hy : p.fetchY.toNat = p.ly.toNat - p.wy.toNat := by
    unfold Ppu.fetchY; rw [h]; simp only [if_true]
    rw [BitVec.toNat_sub]
    have := p.ly.isLt
    have := p.wy.isLt
    omega
  rw [shade_eq, show (p.rowPixel mem x).sourceKind = .window by simp [Ppu.rowPixel, h]]
  simp only
  rw [rowPixel_color mem p p _ ((if p.lcdc.getLsbD 6 = true then 0x9C00 else 0x9800)
    + 32 * (p.fetchY.toNat / 8) + x / 8) rfl]
  · unfold windowColor
    simp only
    rw [hy]
  · unfold Ppu.tileAt
    rw [h]
    rfl


/-- The model's test is the rule's (62 R420). -/
theorem windowStarts_iff (p : Ppu) : p.windowStarts = true ↔ windowStartsAt p := by
  unfold Ppu.windowStarts
  simp [windowStartsAt, and_assoc]

/-- The model's shade is the rule's (62 R430). -/
theorem pixelShade_eq (p : Ppu) (px : Pixel) : p.shade px = pixelShade p px := by
  rw [shade_eq]
  unfold pixelShade
  cases px.sourceKind <;> rfl

/-- The sprites due are mixed in buffer order, each marked, and counted (62 R425). -/
theorem mixDue_eq (mem : Memory) (p : Ppu) (sps : List Sprite) (fifo : List Pixel) :
    let due (sp : Sprite) : Bool := !sp.fetched && decide (sp.posX.toNat = p.line.lx + 8)
    p.mixDue mem sps fifo =
      (sps.map (fun sp => if due sp = true then { sp with fetched := true } else sp),
        (sps.filter due).foldl (fun f sp => p.mixSprite mem sp f) fifo, (sps.filter due).length) := by
  intro due
  induction sps generalizing fifo with
  | nil => rfl
  | cons sp sps ih =>
    unfold Ppu.mixDue
    by_cases h : due sp = true
    · rw [if_pos h, ih]
      simp only [List.map_cons, List.filter_cons, h, if_true, List.foldl_cons, List.length_cons]
    · rw [if_neg h, ih]
      simp only [List.map_cons, List.filter_cons, h, if_false, Bool.false_eq_true]

/-- The sprite trigger as a whole: none is due while LCDC bit 1 is 0 (62 R402, R425). -/
theorem fetchSprites_eq (mem : Memory) (sfc : Nat) (p : Ppu) :
    let due (sp : Sprite) : Bool := p.lcdc.getLsbD 1 && !sp.fetched && decide (sp.posX.toNat = p.line.lx + 8)
    p.fetchSprites mem sfc = { p with
      spriteBuf := p.spriteBuf.map (fun sp => if due sp = true then { sp with fetched := true } else sp)
      line := { p.line with
        fifo := (p.spriteBuf.filter due).foldl (fun f sp => p.mixSprite mem sp f) p.line.fifo
        stall := p.line.stall + sfc * (p.spriteBuf.filter due).length } } := by
  unfold Ppu.fetchSprites
  simp only [mixDue_eq]
  split <;> rename_i h
  · simp only [h, Bool.true_and]
  · simp only [Bool.eq_false_iff.2 h, Bool.false_and, Bool.false_eq_true, if_false, List.map_id', List.filter_false,
      List.foldl_nil, List.length_nil, Nat.mul_zero, Nat.add_zero]

/-- A sprite's row bytes mixed slot by slot. -/
theorem mixRow_getElem? (sp : Sprite) (hi lo : Byte) (j : Nat) (fifo : List Pixel) (i : Nat) :
    (mixRow sp hi lo j fifo)[i]? = fifo[i]?.map fun px =>
      if j + i < 8 then mixPixel sp (colorAt hi lo (if sp.flipX then j + i else 7 - (j + i))) px else px := by
  induction fifo generalizing i j with
  | nil => rfl
  | cons px rest ih =>
    unfold mixRow
    by_cases h : j < 8
    · rw [if_pos h]
      cases i with
      | zero => simp [h]
      | succ i => simp only [List.getElem?_cons_succ, ih]; rw [Nat.add_right_comm, Nat.add_assoc]
    · rw [if_neg h]
      have : ∀ i, (fun px : Pixel => if j + i < 8 then
        mixPixel sp (colorAt hi lo (if sp.flipX then j + i else 7 - (j + i))) px else px) = id := by
        intro i; funext px; rw [if_neg (by omega)]; rfl
      rw [this, Option.map_id, id]

/-- The row of a sprite shown, in integers: the lines below its top, modulo its height, from the other end if flipped
(62 R426). -/
theorem spriteRow_eq (p : Ppu) (sp : Sprite) :
    p.spriteRow sp =
      let down := (((p.ly.toNat : Int) + 16 - sp.posY.toNat) % (p.spriteHeight : Int)).toNat
      if sp.flipY = true then p.spriteHeight - 1 - down else down := by
  have e : (p.ly.toNat + 16 + 256 - sp.posY.toNat) % p.spriteHeight
      = (((p.ly.toNat : Int) + 16 - sp.posY.toNat) % (p.spriteHeight : Int)).toNat := by
    have := sp.posY.isLt
    unfold Ppu.spriteHeight
    split <;> omega
  unfold Ppu.spriteRow
  simp only [e]

/-- A tall sprite's tile number without its lowest bit (62 R426). -/
theorem tileMask (t : Byte) : (t &&& 0xFE).toNat = t.toNat / 2 * 2 := by
  revert t; decide

/-- A slot under a sprite's colour as a number (62 R426). -/
theorem mixPixel_eq (sp : Sprite) {c : Nat} (hc : c < 4) (px : Pixel) :
    mixPixel sp (BitVec.ofNat 2 c) px =
      if c ≠ 0 ∧ px.sourceKind ≠ .sprite ∧ ¬ (sp.priority = true ∧ px.colorIndex ≠ 0) then
        { colorIndex := BitVec.ofNat 2 c, sourceKind := .sprite, paletteSelect := sp.paletteSelect,
          priority := sp.priority }
      else px := by
  have hne : BitVec.ofNat 2 c = 0 ↔ c = 0 := by
    constructor
    · intro h
      have := congrArg BitVec.toNat h
      rw [BitVec.toNat_ofNat] at this
      simp at this
      omega
    · intro h; rw [h]; rfl
  unfold mixPixel
  simp only [bne_iff_ne, Bool.and_eq_true, Bool.not_eq_true', ne_eq, hne, Bool.and_eq_false_iff, not_and, and_assoc,
    bne_eq_false_iff_eq, Classical.or_iff_not_imp_left, Bool.not_eq_false, not_not]

/-- The fetcher's clock touches the fetch registers and the FIFO only (62 R410, R411). -/
theorem fetcherClock_state (mem : Memory) (q : Ppu) :
    q.fetcherClock mem = { q with line := { (q.fetcherClock mem).line with
      inWindow := q.line.inWindow, lx := q.line.lx, discard := q.line.discard, stall := q.line.stall } } := by
  unfold Ppu.fetcherClock Ppu.fetcherStep
  simp only
  split
  · rfl
  · split <;> first | rfl | (split <;> rfl)

/-- On a line on which no window starts before pixel LX, or shows at all, none starts here. -/
theorem windowStarts_false {p : Ppu} (q : Ppu) (hs : p.sameScreen q) (hw : p.line.inWindow = false)
   (hx : q.line.lx ≤ 159) (h : windowOnLine p = true → q.line.lx + 7 ≠ p.wx.toNat) : q.windowStarts = false := by
  have h1 : q.lcdc = p.lcdc := by rw [hs.1]
  have h2 : q.wy = p.wy := by rw [hs.1]
  have h3 : q.ly = p.ly := by rw [hs.1]
  have h4 : q.wx = p.wx := by rw [hs.1]
  unfold Ppu.windowStarts
  rw [hs.2, h1, h2, h3, h4, hw]
  by_cases e : q.line.lx + 7 = p.wx.toNat
  · have hh : ¬ windowOnLine p = true := fun hh => h hh e
    unfold windowOnLine at hh
    simp only [Bool.and_eq_true, decide_eq_true_eq, not_and] at hh
    cases hc : p.lcdc.getLsbD 5
    · rfl
    · by_cases hy : p.wy.toNat ≤ p.ly.toNat
      · exact absurd (by omega) (hh ⟨⟨hc, hy⟩, by omega⟩)
      · simp [hy]
  · simp [e]

/-- The fetcher's row address in plain arithmetic (62 R413). -/
theorem dataAddr_eq (p : Ppu) :
    p.dataAddr = (if p.lcdc.getLsbD 4 = true then 0x8000 + 16 * p.line.tileIndex.toNat
      else 0x8800 + 16 * ((p.line.tileIndex.toNat + 128) % 256)) + 2 * (p.fetchY.toNat % 8) := by
  unfold Ppu.dataAddr
  split
  · rfl
  · have := p.line.tileIndex.isLt
    rw [BitVec.toInt_eq_toNat_cond]
    split <;> omega

/-- The row of the map that the fetcher reads, as a number (62 R412). -/
theorem fetchY_toNat (p : Ppu) :
    p.fetchY.toNat = if p.line.inWindow = true then (p.ly.toNat + 256 - p.wy.toNat) % 256
      else (p.ly.toNat + p.scy.toNat) % 256 := by
  unfold Ppu.fetchY
  split
  · rw [BitVec.toNat_sub]
    have := p.wy.isLt
    omega
  · exact BitVec.toNat_add _ _

/-- One clock of the fetcher, step by step (62 R410, R411). -/
theorem fetcherClock_eq (mem : Memory) (p : Ppu) :
    p.fetcherClock mem = { p with line :=
      if p.line.fphase = false then { p.line with fphase := true }
      else match p.line.fstate with
        | .tileIndex => { p.line with fphase := false, tileIndex := mem.read p.mapAddr, fstate := .dataLow }
        | .dataLow => { p.line with fphase := false, dataLow := mem.read p.dataAddr, fstate := .dataHigh }
        | .dataHigh => { p.line with fphase := false, dataHigh := mem.read (p.dataAddr + 1), fstate := .push }
        | .push =>
          if p.line.fifo.length ≤ 8 then
            { p.line with
              fphase := false, fifo := p.line.fifo ++ p.tilePixels
              tileCol := p.line.tileCol + 1, fstate := .tileIndex }
          else { p.line with fphase := false } } := by
  unfold Ppu.fetcherClock
  simp only
  by_cases h : p.line.fphase = false
  · simp only [h, Bool.not_false, if_true]
  · have h' : p.line.fphase = true := by simpa using h
    simp only [h', Bool.not_true, Bool.false_eq_true, if_false, reduceCtorEq, Ppu.fetcherStep]
    cases p.line.fstate
    · rfl
    · rfl
    · rfl
    · simp only
      split <;> rfl

/-- The eight pixels pushed, in plain arithmetic (62 R414, R431). -/
theorem tilePixels_range (p : Ppu) :
    p.tilePixels = (List.range 8).map fun i =>
      { colorIndex := if p.lcdc.getLsbD 0 = true then BitVec.ofNat 2
          (2 * (p.line.dataHigh.toNat / 2 ^ (7 - i) % 2) + p.line.dataLow.toNat / 2 ^ (7 - i) % 2) else 0
        sourceKind := if p.line.inWindow = true then .window else .background
        paletteSelect := false
        priority := false } := by
  have e : ∀ b, colorAt p.line.dataHigh p.line.dataLow b =
      BitVec.ofNat 2 (2 * (p.line.dataHigh.toNat / 2 ^ b % 2) + p.line.dataLow.toNat / 2 ^ b % 2) := by
    intro b
    rw [← colorAt_toNat, BitVec.ofNat_toNat, BitVec.setWidth_eq]
  unfold Ppu.tilePixels
  simp only [e]
  rfl

/-- A clock of mode 3 changes the mode, the sprite marks, the line and the frame buffer only (62 R402). -/
theorem mode3Clock_state (mem : Memory) (sfc : Nat) (p : Ppu) :
    p.mode3Clock mem sfc = { p with
      mode := (p.mode3Clock mem sfc).mode, spriteBuf := (p.mode3Clock mem sfc).spriteBuf
      line := (p.mode3Clock mem sfc).line, fb := (p.mode3Clock mem sfc).fb } := by
  have hf : ∀ q : Ppu, q.fetcherClock mem = { q with line := (q.fetcherClock mem).line } := by
    intro q
    rw [fetcherClock_eq]
  unfold Ppu.mode3Clock
  split
  · rfl
  split
  · split
    · rfl
    split
    · rw [hf]; rfl
    · rw [fetchSprites_eq]
      unfold Ppu.outputClock
      split
      · rfl
      · split
        · rw [hf]
        · simp only
          split
          · rfl
          · rw [hf]; rfl
  · rw [hf]

/-- A clock of mode 3 keeps the mode or ends it (62 R396, R402). -/
theorem mode3Clock_mode (mem : Memory) (sfc : Nat) (p : Ppu) :
    (p.mode3Clock mem sfc).mode = p.mode ∨ (p.mode3Clock mem sfc).mode = .hblank := by
  have hf : ∀ q : Ppu, (q.fetcherClock mem).mode = q.mode := by
    intro q
    rw [fetcherClock_eq]
  unfold Ppu.mode3Clock
  split
  · exact .inl rfl
  split
  · split
    · exact .inl rfl
    split
    · rw [hf]; exact .inl rfl
    · rw [fetchSprites_eq]
      unfold Ppu.outputClock
      split
      · exact .inl rfl
      · split
        · rw [hf]; exact .inl rfl
        · simp only
          split
          · simp only [Ppu.outputPixel]
            split <;> simp
          · rw [hf]
            simp only [Ppu.outputPixel]
            split <;> simp
  · rw [hf]; exact .inl rfl

end Sys2Proof.Machine
end

