-- ==== Sys2Proof/Laws/State.lean ====
section
/-! SUPPORT. What each named update of the state leaves in each field: one lemma per field per update. -/

namespace Sys2Proof.Machine

/-! ## `addClocks` -/

@[simp] theorem addClocks_regs (n : Nat) (s : State) : (addClocks n s).regs = s.regs := rfl
@[simp] theorem addClocks_sp (n : Nat) (s : State) : (addClocks n s).sp = s.sp := rfl
@[simp] theorem addClocks_pc (n : Nat) (s : State) : (addClocks n s).pc = s.pc := rfl
@[simp] theorem addClocks_ime (n : Nat) (s : State) : (addClocks n s).ime = s.ime := rfl
@[simp] theorem addClocks_ie (n : Nat) (s : State) : (addClocks n s).ie = s.ie := rfl
@[simp] theorem addClocks_ifr (n : Nat) (s : State) : (addClocks n s).ifr = s.ifr := rfl
@[simp] theorem addClocks_halt (n : Nat) (s : State) : (addClocks n s).halt = s.halt := rfl
@[simp] theorem addClocks_haltBug (n : Nat) (s : State) : (addClocks n s).haltBug = s.haltBug := rfl
@[simp] theorem addClocks_timer (n : Nat) (s : State) : (addClocks n s).timer = s.timer := rfl
@[simp] theorem addClocks_ppu (n : Nat) (s : State) : (addClocks n s).ppu = s.ppu := rfl
@[simp] theorem addClocks_dma (n : Nat) (s : State) : (addClocks n s).dma = s.dma := rfl
@[simp] theorem addClocks_dmaBusy (n : Nat) (s : State) : (addClocks n s).dmaBusy = s.dmaBusy := rfl
@[simp] theorem addClocks_bootRomEnabled (n : Nat) (s : State) : (addClocks n s).bootRomEnabled = s.bootRomEnabled := rfl
@[simp] theorem addClocks_bootRom (n : Nat) (s : State) : (addClocks n s).bootRom = s.bootRom := rfl
@[simp] theorem addClocks_mem (n : Nat) (s : State) : (addClocks n s).mem = s.mem := rfl
@[simp] theorem addClocks_cartRamPresent (n : Nat) (s : State) : (addClocks n s).cartRamPresent = s.cartRamPresent := rfl
@[simp] theorem addClocks_spriteFetchClocks (n : Nat) (s : State) : (addClocks n s).spriteFetchClocks = s.spriteFetchClocks := rfl
@[simp] theorem addClocks_clocks (n : Nat) (s : State) : (addClocks n s).clocks = s.clocks + n := rfl
@[simp] theorem addClocks_opcodePc (n : Nat) (s : State) : (addClocks n s).opcodePc = s.opcodePc := rfl
@[simp] theorem addClocks_draws (n : Nat) (s : State) : (addClocks n s).draws = s.draws := rfl

/-! ## `internal` -/

@[simp] theorem internal_regs (s : State) : (internal s).regs = s.regs := rfl
@[simp] theorem internal_sp (s : State) : (internal s).sp = s.sp := rfl
@[simp] theorem internal_pc (s : State) : (internal s).pc = s.pc := rfl
@[simp] theorem internal_ime (s : State) : (internal s).ime = s.ime := rfl
@[simp] theorem internal_ie (s : State) : (internal s).ie = s.ie := rfl
@[simp] theorem internal_ifr (s : State) : (internal s).ifr = s.ifr := rfl
@[simp] theorem internal_halt (s : State) : (internal s).halt = s.halt := rfl
@[simp] theorem internal_haltBug (s : State) : (internal s).haltBug = s.haltBug := rfl
@[simp] theorem internal_timer (s : State) : (internal s).timer = s.timer := rfl
@[simp] theorem internal_ppu (s : State) : (internal s).ppu = s.ppu := rfl
@[simp] theorem internal_dma (s : State) : (internal s).dma = s.dma := rfl
@[simp] theorem internal_dmaBusy (s : State) : (internal s).dmaBusy = s.dmaBusy := rfl
@[simp] theorem internal_bootRomEnabled (s : State) : (internal s).bootRomEnabled = s.bootRomEnabled := rfl
@[simp] theorem internal_bootRom (s : State) : (internal s).bootRom = s.bootRom := rfl
@[simp] theorem internal_mem (s : State) : (internal s).mem = s.mem := rfl
@[simp] theorem internal_cartRamPresent (s : State) : (internal s).cartRamPresent = s.cartRamPresent := rfl
@[simp] theorem internal_spriteFetchClocks (s : State) : (internal s).spriteFetchClocks = s.spriteFetchClocks := rfl
@[simp] theorem internal_clocks (s : State) : (internal s).clocks = s.clocks + 4 := rfl
@[simp] theorem internal_opcodePc (s : State) : (internal s).opcodePc = s.opcodePc := rfl
@[simp] theorem internal_draws (s : State) : (internal s).draws = s.draws := rfl

/-! ## `setR8` -/

@[simp] theorem setR8_regs (r : R8) (v : Byte) (s : State) : (setR8 r v s).regs = s.regs.set r v := rfl
@[simp] theorem setR8_sp (r : R8) (v : Byte) (s : State) : (setR8 r v s).sp = s.sp := rfl
@[simp] theorem setR8_pc (r : R8) (v : Byte) (s : State) : (setR8 r v s).pc = s.pc := rfl
@[simp] theorem setR8_ime (r : R8) (v : Byte) (s : State) : (setR8 r v s).ime = s.ime := rfl
@[simp] theorem setR8_ie (r : R8) (v : Byte) (s : State) : (setR8 r v s).ie = s.ie := rfl
@[simp] theorem setR8_ifr (r : R8) (v : Byte) (s : State) : (setR8 r v s).ifr = s.ifr := rfl
@[simp] theorem setR8_halt (r : R8) (v : Byte) (s : State) : (setR8 r v s).halt = s.halt := rfl
@[simp] theorem setR8_haltBug (r : R8) (v : Byte) (s : State) : (setR8 r v s).haltBug = s.haltBug := rfl
@[simp] theorem setR8_timer (r : R8) (v : Byte) (s : State) : (setR8 r v s).timer = s.timer := rfl
@[simp] theorem setR8_ppu (r : R8) (v : Byte) (s : State) : (setR8 r v s).ppu = s.ppu := rfl
@[simp] theorem setR8_dma (r : R8) (v : Byte) (s : State) : (setR8 r v s).dma = s.dma := rfl
@[simp] theorem setR8_dmaBusy (r : R8) (v : Byte) (s : State) : (setR8 r v s).dmaBusy = s.dmaBusy := rfl
@[simp] theorem setR8_bootRomEnabled (r : R8) (v : Byte) (s : State) : (setR8 r v s).bootRomEnabled = s.bootRomEnabled := rfl
@[simp] theorem setR8_bootRom (r : R8) (v : Byte) (s : State) : (setR8 r v s).bootRom = s.bootRom := rfl
@[simp] theorem setR8_mem (r : R8) (v : Byte) (s : State) : (setR8 r v s).mem = s.mem := rfl
@[simp] theorem setR8_cartRamPresent (r : R8) (v : Byte) (s : State) : (setR8 r v s).cartRamPresent = s.cartRamPresent := rfl
@[simp] theorem setR8_spriteFetchClocks (r : R8) (v : Byte) (s : State) : (setR8 r v s).spriteFetchClocks = s.spriteFetchClocks := rfl
@[simp] theorem setR8_clocks (r : R8) (v : Byte) (s : State) : (setR8 r v s).clocks = s.clocks := rfl
@[simp] theorem setR8_opcodePc (r : R8) (v : Byte) (s : State) : (setR8 r v s).opcodePc = s.opcodePc := rfl
@[simp] theorem setR8_draws (r : R8) (v : Byte) (s : State) : (setR8 r v s).draws = s.draws := rfl

/-! ## `setF` -/

@[simp] theorem setF_regs (v : Byte) (s : State) : (setF v s).regs = { s.regs with f := v &&& 0xF0 } := rfl
@[simp] theorem setF_sp (v : Byte) (s : State) : (setF v s).sp = s.sp := rfl
@[simp] theorem setF_pc (v : Byte) (s : State) : (setF v s).pc = s.pc := rfl
@[simp] theorem setF_ime (v : Byte) (s : State) : (setF v s).ime = s.ime := rfl
@[simp] theorem setF_ie (v : Byte) (s : State) : (setF v s).ie = s.ie := rfl
@[simp] theorem setF_ifr (v : Byte) (s : State) : (setF v s).ifr = s.ifr := rfl
@[simp] theorem setF_halt (v : Byte) (s : State) : (setF v s).halt = s.halt := rfl
@[simp] theorem setF_haltBug (v : Byte) (s : State) : (setF v s).haltBug = s.haltBug := rfl
@[simp] theorem setF_timer (v : Byte) (s : State) : (setF v s).timer = s.timer := rfl
@[simp] theorem setF_ppu (v : Byte) (s : State) : (setF v s).ppu = s.ppu := rfl
@[simp] theorem setF_dma (v : Byte) (s : State) : (setF v s).dma = s.dma := rfl
@[simp] theorem setF_dmaBusy (v : Byte) (s : State) : (setF v s).dmaBusy = s.dmaBusy := rfl
@[simp] theorem setF_bootRomEnabled (v : Byte) (s : State) : (setF v s).bootRomEnabled = s.bootRomEnabled := rfl
@[simp] theorem setF_bootRom (v : Byte) (s : State) : (setF v s).bootRom = s.bootRom := rfl
@[simp] theorem setF_mem (v : Byte) (s : State) : (setF v s).mem = s.mem := rfl
@[simp] theorem setF_cartRamPresent (v : Byte) (s : State) : (setF v s).cartRamPresent = s.cartRamPresent := rfl
@[simp] theorem setF_spriteFetchClocks (v : Byte) (s : State) : (setF v s).spriteFetchClocks = s.spriteFetchClocks := rfl
@[simp] theorem setF_clocks (v : Byte) (s : State) : (setF v s).clocks = s.clocks := rfl
@[simp] theorem setF_opcodePc (v : Byte) (s : State) : (setF v s).opcodePc = s.opcodePc := rfl
@[simp] theorem setF_draws (v : Byte) (s : State) : (setF v s).draws = s.draws := rfl

/-! ## `setBc` -/

@[simp] theorem setBc_regs (v : Word) (s : State) : (setBc v s).regs = { s.regs with b := hiByte v, c := loByte v } := rfl
@[simp] theorem setBc_sp (v : Word) (s : State) : (setBc v s).sp = s.sp := rfl
@[simp] theorem setBc_pc (v : Word) (s : State) : (setBc v s).pc = s.pc := rfl
@[simp] theorem setBc_ime (v : Word) (s : State) : (setBc v s).ime = s.ime := rfl
@[simp] theorem setBc_ie (v : Word) (s : State) : (setBc v s).ie = s.ie := rfl
@[simp] theorem setBc_ifr (v : Word) (s : State) : (setBc v s).ifr = s.ifr := rfl
@[simp] theorem setBc_halt (v : Word) (s : State) : (setBc v s).halt = s.halt := rfl
@[simp] theorem setBc_haltBug (v : Word) (s : State) : (setBc v s).haltBug = s.haltBug := rfl
@[simp] theorem setBc_timer (v : Word) (s : State) : (setBc v s).timer = s.timer := rfl
@[simp] theorem setBc_ppu (v : Word) (s : State) : (setBc v s).ppu = s.ppu := rfl
@[simp] theorem setBc_dma (v : Word) (s : State) : (setBc v s).dma = s.dma := rfl
@[simp] theorem setBc_dmaBusy (v : Word) (s : State) : (setBc v s).dmaBusy = s.dmaBusy := rfl
@[simp] theorem setBc_bootRomEnabled (v : Word) (s : State) : (setBc v s).bootRomEnabled = s.bootRomEnabled := rfl
@[simp] theorem setBc_bootRom (v : Word) (s : State) : (setBc v s).bootRom = s.bootRom := rfl
@[simp] theorem setBc_mem (v : Word) (s : State) : (setBc v s).mem = s.mem := rfl
@[simp] theorem setBc_cartRamPresent (v : Word) (s : State) : (setBc v s).cartRamPresent = s.cartRamPresent := rfl
@[simp] theorem setBc_spriteFetchClocks (v : Word) (s : State) : (setBc v s).spriteFetchClocks = s.spriteFetchClocks := rfl
@[simp] theorem setBc_clocks (v : Word) (s : State) : (setBc v s).clocks = s.clocks := rfl
@[simp] theorem setBc_opcodePc (v : Word) (s : State) : (setBc v s).opcodePc = s.opcodePc := rfl
@[simp] theorem setBc_draws (v : Word) (s : State) : (setBc v s).draws = s.draws := rfl

/-! ## `setDe` -/

@[simp] theorem setDe_regs (v : Word) (s : State) : (setDe v s).regs = { s.regs with d := hiByte v, e := loByte v } := rfl
@[simp] theorem setDe_sp (v : Word) (s : State) : (setDe v s).sp = s.sp := rfl
@[simp] theorem setDe_pc (v : Word) (s : State) : (setDe v s).pc = s.pc := rfl
@[simp] theorem setDe_ime (v : Word) (s : State) : (setDe v s).ime = s.ime := rfl
@[simp] theorem setDe_ie (v : Word) (s : State) : (setDe v s).ie = s.ie := rfl
@[simp] theorem setDe_ifr (v : Word) (s : State) : (setDe v s).ifr = s.ifr := rfl
@[simp] theorem setDe_halt (v : Word) (s : State) : (setDe v s).halt = s.halt := rfl
@[simp] theorem setDe_haltBug (v : Word) (s : State) : (setDe v s).haltBug = s.haltBug := rfl
@[simp] theorem setDe_timer (v : Word) (s : State) : (setDe v s).timer = s.timer := rfl
@[simp] theorem setDe_ppu (v : Word) (s : State) : (setDe v s).ppu = s.ppu := rfl
@[simp] theorem setDe_dma (v : Word) (s : State) : (setDe v s).dma = s.dma := rfl
@[simp] theorem setDe_dmaBusy (v : Word) (s : State) : (setDe v s).dmaBusy = s.dmaBusy := rfl
@[simp] theorem setDe_bootRomEnabled (v : Word) (s : State) : (setDe v s).bootRomEnabled = s.bootRomEnabled := rfl
@[simp] theorem setDe_bootRom (v : Word) (s : State) : (setDe v s).bootRom = s.bootRom := rfl
@[simp] theorem setDe_mem (v : Word) (s : State) : (setDe v s).mem = s.mem := rfl
@[simp] theorem setDe_cartRamPresent (v : Word) (s : State) : (setDe v s).cartRamPresent = s.cartRamPresent := rfl
@[simp] theorem setDe_spriteFetchClocks (v : Word) (s : State) : (setDe v s).spriteFetchClocks = s.spriteFetchClocks := rfl
@[simp] theorem setDe_clocks (v : Word) (s : State) : (setDe v s).clocks = s.clocks := rfl
@[simp] theorem setDe_opcodePc (v : Word) (s : State) : (setDe v s).opcodePc = s.opcodePc := rfl
@[simp] theorem setDe_draws (v : Word) (s : State) : (setDe v s).draws = s.draws := rfl

/-! ## `setHl` -/

@[simp] theorem setHl_regs (v : Word) (s : State) : (setHl v s).regs = { s.regs with h := hiByte v, l := loByte v } := rfl
@[simp] theorem setHl_sp (v : Word) (s : State) : (setHl v s).sp = s.sp := rfl
@[simp] theorem setHl_pc (v : Word) (s : State) : (setHl v s).pc = s.pc := rfl
@[simp] theorem setHl_ime (v : Word) (s : State) : (setHl v s).ime = s.ime := rfl
@[simp] theorem setHl_ie (v : Word) (s : State) : (setHl v s).ie = s.ie := rfl
@[simp] theorem setHl_ifr (v : Word) (s : State) : (setHl v s).ifr = s.ifr := rfl
@[simp] theorem setHl_halt (v : Word) (s : State) : (setHl v s).halt = s.halt := rfl
@[simp] theorem setHl_haltBug (v : Word) (s : State) : (setHl v s).haltBug = s.haltBug := rfl
@[simp] theorem setHl_timer (v : Word) (s : State) : (setHl v s).timer = s.timer := rfl
@[simp] theorem setHl_ppu (v : Word) (s : State) : (setHl v s).ppu = s.ppu := rfl
@[simp] theorem setHl_dma (v : Word) (s : State) : (setHl v s).dma = s.dma := rfl
@[simp] theorem setHl_dmaBusy (v : Word) (s : State) : (setHl v s).dmaBusy = s.dmaBusy := rfl
@[simp] theorem setHl_bootRomEnabled (v : Word) (s : State) : (setHl v s).bootRomEnabled = s.bootRomEnabled := rfl
@[simp] theorem setHl_bootRom (v : Word) (s : State) : (setHl v s).bootRom = s.bootRom := rfl
@[simp] theorem setHl_mem (v : Word) (s : State) : (setHl v s).mem = s.mem := rfl
@[simp] theorem setHl_cartRamPresent (v : Word) (s : State) : (setHl v s).cartRamPresent = s.cartRamPresent := rfl
@[simp] theorem setHl_spriteFetchClocks (v : Word) (s : State) : (setHl v s).spriteFetchClocks = s.spriteFetchClocks := rfl
@[simp] theorem setHl_clocks (v : Word) (s : State) : (setHl v s).clocks = s.clocks := rfl
@[simp] theorem setHl_opcodePc (v : Word) (s : State) : (setHl v s).opcodePc = s.opcodePc := rfl
@[simp] theorem setHl_draws (v : Word) (s : State) : (setHl v s).draws = s.draws := rfl

/-! ## `setAf` -/

@[simp] theorem setAf_regs (v : Word) (s : State) : (setAf v s).regs = { s.regs with a := hiByte v, f := loByte v &&& 0xF0 } := rfl
@[simp] theorem setAf_sp (v : Word) (s : State) : (setAf v s).sp = s.sp := rfl
@[simp] theorem setAf_pc (v : Word) (s : State) : (setAf v s).pc = s.pc := rfl
@[simp] theorem setAf_ime (v : Word) (s : State) : (setAf v s).ime = s.ime := rfl
@[simp] theorem setAf_ie (v : Word) (s : State) : (setAf v s).ie = s.ie := rfl
@[simp] theorem setAf_ifr (v : Word) (s : State) : (setAf v s).ifr = s.ifr := rfl
@[simp] theorem setAf_halt (v : Word) (s : State) : (setAf v s).halt = s.halt := rfl
@[simp] theorem setAf_haltBug (v : Word) (s : State) : (setAf v s).haltBug = s.haltBug := rfl
@[simp] theorem setAf_timer (v : Word) (s : State) : (setAf v s).timer = s.timer := rfl
@[simp] theorem setAf_ppu (v : Word) (s : State) : (setAf v s).ppu = s.ppu := rfl
@[simp] theorem setAf_dma (v : Word) (s : State) : (setAf v s).dma = s.dma := rfl
@[simp] theorem setAf_dmaBusy (v : Word) (s : State) : (setAf v s).dmaBusy = s.dmaBusy := rfl
@[simp] theorem setAf_bootRomEnabled (v : Word) (s : State) : (setAf v s).bootRomEnabled = s.bootRomEnabled := rfl
@[simp] theorem setAf_bootRom (v : Word) (s : State) : (setAf v s).bootRom = s.bootRom := rfl
@[simp] theorem setAf_mem (v : Word) (s : State) : (setAf v s).mem = s.mem := rfl
@[simp] theorem setAf_cartRamPresent (v : Word) (s : State) : (setAf v s).cartRamPresent = s.cartRamPresent := rfl
@[simp] theorem setAf_spriteFetchClocks (v : Word) (s : State) : (setAf v s).spriteFetchClocks = s.spriteFetchClocks := rfl
@[simp] theorem setAf_clocks (v : Word) (s : State) : (setAf v s).clocks = s.clocks := rfl
@[simp] theorem setAf_opcodePc (v : Word) (s : State) : (setAf v s).opcodePc = s.opcodePc := rfl
@[simp] theorem setAf_draws (v : Word) (s : State) : (setAf v s).draws = s.draws := rfl

/-! ## `storeByte` -/

@[simp] theorem storeByte_regs (a : Word) (v : Byte) (s : State) : (storeByte a v s).regs = s.regs := rfl
@[simp] theorem storeByte_sp (a : Word) (v : Byte) (s : State) : (storeByte a v s).sp = s.sp := rfl
@[simp] theorem storeByte_pc (a : Word) (v : Byte) (s : State) : (storeByte a v s).pc = s.pc := rfl
@[simp] theorem storeByte_ime (a : Word) (v : Byte) (s : State) : (storeByte a v s).ime = s.ime := rfl
@[simp] theorem storeByte_ie (a : Word) (v : Byte) (s : State) : (storeByte a v s).ie = s.ie := rfl
@[simp] theorem storeByte_ifr (a : Word) (v : Byte) (s : State) : (storeByte a v s).ifr = s.ifr := rfl
@[simp] theorem storeByte_halt (a : Word) (v : Byte) (s : State) : (storeByte a v s).halt = s.halt := rfl
@[simp] theorem storeByte_haltBug (a : Word) (v : Byte) (s : State) : (storeByte a v s).haltBug = s.haltBug := rfl
@[simp] theorem storeByte_timer (a : Word) (v : Byte) (s : State) : (storeByte a v s).timer = s.timer := rfl
@[simp] theorem storeByte_ppu (a : Word) (v : Byte) (s : State) : (storeByte a v s).ppu = s.ppu := rfl
@[simp] theorem storeByte_dma (a : Word) (v : Byte) (s : State) : (storeByte a v s).dma = s.dma := rfl
@[simp] theorem storeByte_dmaBusy (a : Word) (v : Byte) (s : State) : (storeByte a v s).dmaBusy = s.dmaBusy := rfl
@[simp] theorem storeByte_bootRomEnabled (a : Word) (v : Byte) (s : State) : (storeByte a v s).bootRomEnabled = s.bootRomEnabled := rfl
@[simp] theorem storeByte_bootRom (a : Word) (v : Byte) (s : State) : (storeByte a v s).bootRom = s.bootRom := rfl
@[simp] theorem storeByte_mem (a : Word) (v : Byte) (s : State) : (storeByte a v s).mem = s.mem.write (homeKey a) v := rfl
@[simp] theorem storeByte_cartRamPresent (a : Word) (v : Byte) (s : State) : (storeByte a v s).cartRamPresent = s.cartRamPresent := rfl
@[simp] theorem storeByte_spriteFetchClocks (a : Word) (v : Byte) (s : State) : (storeByte a v s).spriteFetchClocks = s.spriteFetchClocks := rfl
@[simp] theorem storeByte_clocks (a : Word) (v : Byte) (s : State) : (storeByte a v s).clocks = s.clocks := rfl
@[simp] theorem storeByte_opcodePc (a : Word) (v : Byte) (s : State) : (storeByte a v s).opcodePc = s.opcodePc := rfl
@[simp] theorem storeByte_draws (a : Word) (v : Byte) (s : State) : (storeByte a v s).draws = s.draws := rfl

/-! ## `updateStatLine` -/

@[simp] theorem updateStatLine_regs (s : State) : (updateStatLine s).regs = s.regs := rfl
@[simp] theorem updateStatLine_sp (s : State) : (updateStatLine s).sp = s.sp := rfl
@[simp] theorem updateStatLine_pc (s : State) : (updateStatLine s).pc = s.pc := rfl
@[simp] theorem updateStatLine_ime (s : State) : (updateStatLine s).ime = s.ime := rfl
@[simp] theorem updateStatLine_ie (s : State) : (updateStatLine s).ie = s.ie := rfl
@[simp] theorem updateStatLine_ifr (s : State) : (updateStatLine s).ifr = (if s.ppu.statLevel && !s.ppu.statLine then s.ifr ||| 0b00010 else s.ifr) := rfl
@[simp] theorem updateStatLine_halt (s : State) : (updateStatLine s).halt = s.halt := rfl
@[simp] theorem updateStatLine_haltBug (s : State) : (updateStatLine s).haltBug = s.haltBug := rfl
@[simp] theorem updateStatLine_timer (s : State) : (updateStatLine s).timer = s.timer := rfl
@[simp] theorem updateStatLine_ppu (s : State) : (updateStatLine s).ppu = { s.ppu with statLine := s.ppu.statLevel } := rfl
@[simp] theorem updateStatLine_dma (s : State) : (updateStatLine s).dma = s.dma := rfl
@[simp] theorem updateStatLine_dmaBusy (s : State) : (updateStatLine s).dmaBusy = s.dmaBusy := rfl
@[simp] theorem updateStatLine_bootRomEnabled (s : State) : (updateStatLine s).bootRomEnabled = s.bootRomEnabled := rfl
@[simp] theorem updateStatLine_bootRom (s : State) : (updateStatLine s).bootRom = s.bootRom := rfl
@[simp] theorem updateStatLine_mem (s : State) : (updateStatLine s).mem = s.mem := rfl
@[simp] theorem updateStatLine_cartRamPresent (s : State) : (updateStatLine s).cartRamPresent = s.cartRamPresent := rfl
@[simp] theorem updateStatLine_spriteFetchClocks (s : State) : (updateStatLine s).spriteFetchClocks = s.spriteFetchClocks := rfl
@[simp] theorem updateStatLine_clocks (s : State) : (updateStatLine s).clocks = s.clocks := rfl
@[simp] theorem updateStatLine_opcodePc (s : State) : (updateStatLine s).opcodePc = s.opcodePc := rfl
@[simp] theorem updateStatLine_draws (s : State) : (updateStatLine s).draws = s.draws := rfl

/-! ## `beginStep` -/

@[simp] theorem beginStep_regs (s : State) : (beginStep s).regs = s.regs := rfl
@[simp] theorem beginStep_sp (s : State) : (beginStep s).sp = s.sp := rfl
@[simp] theorem beginStep_pc (s : State) : (beginStep s).pc = s.pc := rfl
@[simp] theorem beginStep_ime (s : State) : (beginStep s).ime = s.ime := rfl
@[simp] theorem beginStep_ie (s : State) : (beginStep s).ie = s.ie := rfl
@[simp] theorem beginStep_ifr (s : State) : (beginStep s).ifr = s.ifr := rfl
@[simp] theorem beginStep_halt (s : State) : (beginStep s).halt = s.halt := rfl
@[simp] theorem beginStep_haltBug (s : State) : (beginStep s).haltBug = s.haltBug := rfl
@[simp] theorem beginStep_timer (s : State) : (beginStep s).timer = s.timer := rfl
@[simp] theorem beginStep_ppu (s : State) : (beginStep s).ppu = s.ppu := rfl
@[simp] theorem beginStep_dma (s : State) : (beginStep s).dma = s.dma := rfl
@[simp] theorem beginStep_dmaBusy (s : State) : (beginStep s).dmaBusy = s.dmaBusy := rfl
@[simp] theorem beginStep_bootRomEnabled (s : State) : (beginStep s).bootRomEnabled = s.bootRomEnabled := rfl
@[simp] theorem beginStep_bootRom (s : State) : (beginStep s).bootRom = s.bootRom := rfl
@[simp] theorem beginStep_mem (s : State) : (beginStep s).mem = s.mem := rfl
@[simp] theorem beginStep_cartRamPresent (s : State) : (beginStep s).cartRamPresent = s.cartRamPresent := rfl
@[simp] theorem beginStep_spriteFetchClocks (s : State) : (beginStep s).spriteFetchClocks = s.spriteFetchClocks := rfl
@[simp] theorem beginStep_clocks (s : State) : (beginStep s).clocks = 0 := rfl
@[simp] theorem beginStep_opcodePc (s : State) : (beginStep s).opcodePc = s.opcodePc := rfl
@[simp] theorem beginStep_draws (s : State) : (beginStep s).draws = s.draws := rfl

/-! ## `timerSubStep` -/

@[simp] theorem timerSubStep_regs (s : State) : (timerSubStep s).regs = s.regs := rfl
@[simp] theorem timerSubStep_sp (s : State) : (timerSubStep s).sp = s.sp := rfl
@[simp] theorem timerSubStep_pc (s : State) : (timerSubStep s).pc = s.pc := rfl
@[simp] theorem timerSubStep_ime (s : State) : (timerSubStep s).ime = s.ime := rfl
@[simp] theorem timerSubStep_ie (s : State) : (timerSubStep s).ie = s.ie := rfl
@[simp] theorem timerSubStep_ifr (s : State) : (timerSubStep s).ifr = (if s.timer.overflowPending then s.ifr ||| 0b00100 else s.ifr) := rfl
@[simp] theorem timerSubStep_halt (s : State) : (timerSubStep s).halt = s.halt := rfl
@[simp] theorem timerSubStep_haltBug (s : State) : (timerSubStep s).haltBug = s.haltBug := rfl
@[simp] theorem timerSubStep_timer (s : State) : (timerSubStep s).timer = s.timer.reload.count := rfl
@[simp] theorem timerSubStep_ppu (s : State) : (timerSubStep s).ppu = s.ppu := rfl
@[simp] theorem timerSubStep_dma (s : State) : (timerSubStep s).dma = s.dma := rfl
@[simp] theorem timerSubStep_dmaBusy (s : State) : (timerSubStep s).dmaBusy = s.dmaBusy := rfl
@[simp] theorem timerSubStep_bootRomEnabled (s : State) : (timerSubStep s).bootRomEnabled = s.bootRomEnabled := rfl
@[simp] theorem timerSubStep_bootRom (s : State) : (timerSubStep s).bootRom = s.bootRom := rfl
@[simp] theorem timerSubStep_mem (s : State) : (timerSubStep s).mem = s.mem := rfl
@[simp] theorem timerSubStep_cartRamPresent (s : State) : (timerSubStep s).cartRamPresent = s.cartRamPresent := rfl
@[simp] theorem timerSubStep_spriteFetchClocks (s : State) : (timerSubStep s).spriteFetchClocks = s.spriteFetchClocks := rfl
@[simp] theorem timerSubStep_clocks (s : State) : (timerSubStep s).clocks = s.clocks := rfl
@[simp] theorem timerSubStep_opcodePc (s : State) : (timerSubStep s).opcodePc = s.opcodePc := rfl
@[simp] theorem timerSubStep_draws (s : State) : (timerSubStep s).draws = s.draws := rfl

/-! ## `raiseSerial` -/

@[simp] theorem raiseSerial_regs (s : State) : (raiseSerial s).regs = s.regs := rfl
@[simp] theorem raiseSerial_sp (s : State) : (raiseSerial s).sp = s.sp := rfl
@[simp] theorem raiseSerial_pc (s : State) : (raiseSerial s).pc = s.pc := rfl
@[simp] theorem raiseSerial_ime (s : State) : (raiseSerial s).ime = s.ime := rfl
@[simp] theorem raiseSerial_ie (s : State) : (raiseSerial s).ie = s.ie := rfl
@[simp] theorem raiseSerial_ifr (s : State) : (raiseSerial s).ifr = s.ifr ||| 0b01000 := rfl
@[simp] theorem raiseSerial_halt (s : State) : (raiseSerial s).halt = s.halt := rfl
@[simp] theorem raiseSerial_haltBug (s : State) : (raiseSerial s).haltBug = s.haltBug := rfl
@[simp] theorem raiseSerial_timer (s : State) : (raiseSerial s).timer = s.timer := rfl
@[simp] theorem raiseSerial_ppu (s : State) : (raiseSerial s).ppu = s.ppu := rfl
@[simp] theorem raiseSerial_dma (s : State) : (raiseSerial s).dma = s.dma := rfl
@[simp] theorem raiseSerial_dmaBusy (s : State) : (raiseSerial s).dmaBusy = s.dmaBusy := rfl
@[simp] theorem raiseSerial_bootRomEnabled (s : State) : (raiseSerial s).bootRomEnabled = s.bootRomEnabled := rfl
@[simp] theorem raiseSerial_bootRom (s : State) : (raiseSerial s).bootRom = s.bootRom := rfl
@[simp] theorem raiseSerial_mem (s : State) : (raiseSerial s).mem = s.mem := rfl
@[simp] theorem raiseSerial_cartRamPresent (s : State) : (raiseSerial s).cartRamPresent = s.cartRamPresent := rfl
@[simp] theorem raiseSerial_spriteFetchClocks (s : State) : (raiseSerial s).spriteFetchClocks = s.spriteFetchClocks := rfl
@[simp] theorem raiseSerial_clocks (s : State) : (raiseSerial s).clocks = s.clocks := rfl
@[simp] theorem raiseSerial_opcodePc (s : State) : (raiseSerial s).opcodePc = s.opcodePc := rfl
@[simp] theorem raiseSerial_draws (s : State) : (raiseSerial s).draws = s.draws := rfl

/-! ## `raiseJoypad` -/

@[simp] theorem raiseJoypad_regs (s : State) : (raiseJoypad s).regs = s.regs := rfl
@[simp] theorem raiseJoypad_sp (s : State) : (raiseJoypad s).sp = s.sp := rfl
@[simp] theorem raiseJoypad_pc (s : State) : (raiseJoypad s).pc = s.pc := rfl
@[simp] theorem raiseJoypad_ime (s : State) : (raiseJoypad s).ime = s.ime := rfl
@[simp] theorem raiseJoypad_ie (s : State) : (raiseJoypad s).ie = s.ie := rfl
@[simp] theorem raiseJoypad_ifr (s : State) : (raiseJoypad s).ifr = s.ifr ||| 0b10000 := rfl
@[simp] theorem raiseJoypad_halt (s : State) : (raiseJoypad s).halt = s.halt := rfl
@[simp] theorem raiseJoypad_haltBug (s : State) : (raiseJoypad s).haltBug = s.haltBug := rfl
@[simp] theorem raiseJoypad_timer (s : State) : (raiseJoypad s).timer = s.timer := rfl
@[simp] theorem raiseJoypad_ppu (s : State) : (raiseJoypad s).ppu = s.ppu := rfl
@[simp] theorem raiseJoypad_dma (s : State) : (raiseJoypad s).dma = s.dma := rfl
@[simp] theorem raiseJoypad_dmaBusy (s : State) : (raiseJoypad s).dmaBusy = s.dmaBusy := rfl
@[simp] theorem raiseJoypad_bootRomEnabled (s : State) : (raiseJoypad s).bootRomEnabled = s.bootRomEnabled := rfl
@[simp] theorem raiseJoypad_bootRom (s : State) : (raiseJoypad s).bootRom = s.bootRom := rfl
@[simp] theorem raiseJoypad_mem (s : State) : (raiseJoypad s).mem = s.mem := rfl
@[simp] theorem raiseJoypad_cartRamPresent (s : State) : (raiseJoypad s).cartRamPresent = s.cartRamPresent := rfl
@[simp] theorem raiseJoypad_spriteFetchClocks (s : State) : (raiseJoypad s).spriteFetchClocks = s.spriteFetchClocks := rfl
@[simp] theorem raiseJoypad_clocks (s : State) : (raiseJoypad s).clocks = s.clocks := rfl
@[simp] theorem raiseJoypad_opcodePc (s : State) : (raiseJoypad s).opcodePc = s.opcodePc := rfl
@[simp] theorem raiseJoypad_draws (s : State) : (raiseJoypad s).draws = s.draws := rfl

end Sys2Proof.Machine
end

