-- ==== Sys2Proof/Laws/Step.lean ====
section
/-! SUPPORT. The ways a step goes: a halted cycle, or a fetch and one instruction; then the end of the Step. -/

namespace Sys2Proof.Machine

/-- A halted step is one machine cycle and the end of the Step (40 R125). -/
theorem step_halted {s : State} (h : s.halt = true) : step s = .next (endStep s.ime { s with clocks := 4 }) := by
  unfold step
  rw [if_pos h]
  rfl

/-- A running step is the fetched instruction's meaning and the end of the Step (40 R125). -/
theorem step_running {s : State} (h : s.halt = false) :
    step s =
      match exec (fetchInstr (beginStep s)).1 (fetchInstr (beginStep s)).2 with
      | .next t => .next (endStep s.ime t)
      | .fault r => .fault r
      | .refused r => .refused r := by
  unfold step
  refine (if_neg (by rw [h]; decide)).trans ?_
  generalize fetchInstr (beginStep s) = r
  rfl

/-- Everything a step that gives a next state can be. -/
theorem step_next {s t : State} (h : step s = .next t) :
    (s.halt = true ∧ t = endStep s.ime { s with clocks := 4 })
    ∨ (s.halt = false ∧ ∃ u, exec (fetchInstr (beginStep s)).1 (fetchInstr (beginStep s)).2 = .next u
      ∧ t = endStep s.ime u) := by
  by_cases hh : s.halt = true
  swap
  · rw [Bool.not_eq_true] at hh
    refine .inr ⟨hh, ?_⟩
    rw [step_running hh] at h
    cases he : exec (fetchInstr (beginStep s)).1 (fetchInstr (beginStep s)).2 with
    | next u => rw [he] at h; exact ⟨u, rfl, (Host.Outcome.next.inj h).symm⟩
    | fault r => rw [he] at h; cases h
    | refused r => rw [he] at h; cases h
  · rw [step_halted hh] at h
    exact .inl ⟨hh, (Host.Outcome.next.inj h).symm⟩

/-- The opcode fetch: one byte, 4 clocks, PC one higher unless the HALT bug is armed, which it clears (40 R126). -/
theorem fetchOpcode_eq (s : State) :
    fetchOpcode s
      = ((busRead s.pc s).1, { s with
          pc := s.pc + (if s.haltBug = true then 0 else 1), haltBug := false, clocks := s.clocks + 4
          opcodePc := s.pc, draws := (busRead s.pc s).2.draws }) := by
  have e : busRead s.pc { s with opcodePc := s.pc } = ((busRead s.pc s).1, (busRead s.pc s).2.withCpu
      { s.cpu with opcodePc := s.pc }) := by
    have h := busRead_withCpu s.pc { s.cpu with opcodePc := s.pc } s
    exact h
  unfold fetchOpcode
  rw [memRead_eq, e]
  cases hb : s.haltBug
  · simp only [Bool.false_eq_true, if_false]
    rfl
  · simp only [if_true]
    rw [show s.pc + 0 = s.pc from BitVec.add_zero _]
    rfl

end Sys2Proof.Machine
end

