-- ==== Sys2Proof/Laws/Stores.lean ====
section
/-! SUPPORT. What one and two bus writes leave alone, in the form the frame statements use. -/

namespace Sys2Proof.Machine

/-- The frame of one store (20 R62, R72). -/
theorem StoreFrame_one (a : Word) (v : Byte) (s : State) (n : Nat) :
    StoreFrame [a] s { busWrite a v s with clocks := n } := by
  refine ⟨?_, ?_, ?_, ?_⟩
  · rw [busWrite_state]
  · intro k h
    have hm := h a (List.mem_cons_self ..)
    unfold mayStore at hm
    refine busWrite_read a v s (fun e => hm (.inl e)) fun e => ?_
    by_contra h'
    exact hm (.inr ⟨e, by omega, by omega⟩)
  · intro h
    exact busWrite_ie (fun e => h (by rw [e]; exact List.mem_cons_self ..)) v s
  · intro h
    rw [busWrite_of_not_io (h a (List.mem_cons_self ..))]

/-- Frames of two stores in a row make the frame of both. -/
theorem StoreFrame_trans {as bs : List Word} {s t u : State} (h : StoreFrame as s t) (g : StoreFrame bs t u) :
    StoreFrame (as ++ bs) s u := by
  obtain ⟨h1, h2, h3, h4⟩ := h
  obtain ⟨g1, g2, g3, g4⟩ := g
  refine ⟨?_, ?_, ?_, ?_⟩
  · rw [g1, h1]
  · intro k hk
    rw [g2 k fun a ha => hk a (List.mem_append_right _ ha), h2 k fun a ha => hk a (List.mem_append_left _ ha)]
  · intro hn
    rw [g3 fun e => hn (List.mem_append_right _ e), h3 fun e => hn (List.mem_append_left _ e)]
  · intro hn
    rw [g4 fun a ha => hn a (List.mem_append_right _ ha), h4 fun a ha => hn a (List.mem_append_left _ ha)]

/-- The store and its frame do not see the CPU's own registers: a store followed by a register update is the store from
the updated state. -/
theorem busWrite_with_regs (a : Word) (v : Byte) (s : State) (r : Regs) :
    busWrite a v { s with regs := r } = { busWrite a v s with regs := r } := by
  have h := busWrite_withCpu a v { s.cpu with regs := r } s
  have hc := State.eq_withCpu (busWrite_cpu a v s)
  refine Eq.trans h ?_
  generalize busWrite a v s = u at hc ⊢
  rw [hc]
  rfl

/-- A store keeps every register. -/
theorem busWrite_regs (a : Word) (v : Byte) (s : State) : (busWrite a v s).regs = s.regs :=
  congrArg Cpu.regs (busWrite_cpu a v s)

end Sys2Proof.Machine
end

