-- ==== Sys2Proof/Tests/Slice0.lean ====
section
/-! SUPPORT. The model's own tests: well-formedness, decoding of words written out from the spec, single steps of spec 95's
vectors, devices, and a witness for the hypotheses of every statement. -/

namespace Sys2Proof.Tests

open Sys2Proof Sys2Proof.Machine

/-! ## WellFormed -/

/-- The row PREFIX CB alone is no whole instruction (30 R109): the one check of `wellFormed` refuses it. -/
theorem test_wellFormed_refuses_prefix_row : Instr.wellFormed .prefixCb = false := by decide

/-- A whole instruction is accepted, whatever its operand. -/
theorem test_wellFormed_accepts_stop : Instr.wellFormed (.stop 0x7F) = true := by decide

/-! ## Decoding: words written out bit by bit from the encodings of files 41 to 48 -/

/-- `01 ddd sss`, d = 7 (A), s = 0 (B) (41 R140). -/
theorem test_decode_ld_a_b : decodeBytes [0b01111000] = .ok (.ldAB, []) := rfl

/-- `00 ddd 110` n, d = 4 (H) (41 R141). -/
theorem test_decode_ld_h_imm : decodeBytes [0b00100110, 0xA5] = .ok (.ldHImm8 0xA5, []) := rfl

/-- `01 ddd 110`, d = 1 (C) (41 R142). -/
theorem test_decode_ld_c_at_hl : decodeBytes [0b01001110] = .ok (.ldCAtHl, []) := rfl

/-- `01 110 sss`, s = 5 (L) (41 R143). -/
theorem test_decode_ld_at_hl_l : decodeBytes [0b01110101] = .ok (.ldAtHlL, []) := rfl

/-- 0xE0 n and 0xF2, the high page (41 R154, R155). -/
theorem test_decode_high_page :
    decodeBytes [0b11100000, 0x80] = .ok (.ldhAtImm8A 0x80, []) ∧ decodeBytes [0b11110010] = .ok (.ldAAtC, []) :=
  ⟨rfl, rfl⟩

/-- `00 pp 0001` low high, p = 3 (SP): the low byte of the immediate comes first (42 R170, 30 R108). -/
theorem test_decode_ld_sp_imm : decodeBytes [0b00110001, 0xFE, 0xDF] = .ok (.ldSpImm16 0xDFFE, []) := rfl

/-- `11 pp 0101` and `11 pp 0001`, p = 3 is AF here (42 R175, R176, 30 R105). -/
theorem test_decode_push_pop_af :
    decodeBytes [0b11110101] = .ok (.pushAf, []) ∧ decodeBytes [0b11110001] = .ok (.popAf, []) :=
  ⟨rfl, rfl⟩

/-- `10 ooo sss`, o = 3 (SBC), s = 2 (D); the immediate form `11 ooo 110` n, o = 7 (CP) (43, 30 R110). -/
theorem test_decode_alu :
    decodeBytes [0b10011010] = .ok (.sbcAD, []) ∧ decodeBytes [0b11111110, 0x90] = .ok (.cpImm8 0x90, []) :=
  ⟨rfl, rfl⟩

/-- `00 ddd 101`, d = 6 ((HL)) (43 R220). -/
theorem test_decode_dec_at_hl : decodeBytes [0b00110101] = .ok (.decAtHl, []) := rfl

/-- `00 pp 1001`, p = 2 (HL) (44 R225); 0xE8 e (44 R228). -/
theorem test_decode_alu16 :
    decodeBytes [0b00101001] = .ok (.addHlHl, []) ∧ decodeBytes [0b11101000, 0xFE] = .ok (.addSpRel 0xFE, []) :=
  ⟨rfl, rfl⟩

/-- 0x17 and 0x2F (45 R236, R240). -/
theorem test_decode_rla_cpl : decodeBytes [0b00010111, 0b00101111] = .ok (.rla, [0x2F]) := rfl

/-- CB `00 ooo zzz`, o = 5 (SRA), z = 3 (E) (46 R261). -/
theorem test_decode_sra_e : decodeBytes [0b11001011, 0b00101011] = .ok (.sraE, []) := rfl

/-- CB `01 bbb zzz`, b = 4, z = 7 (A) (46 R267). -/
theorem test_decode_bit_4_a : decodeBytes [0b11001011, 0b01100111] = .ok (.bit4A, []) := rfl

/-- CB `10 bbb zzz`, b = 6, z = 1 (C) (46 R269). -/
theorem test_decode_res_6_c : decodeBytes [0b11001011, 0b10110001] = .ok (.res6C, []) := rfl

/-- CB `11 bbb zzz`, b = 3, z = 6 ((HL)) (46 R272). -/
theorem test_decode_set_3_at_hl : decodeBytes [0b11001011, 0b11011110] = .ok (.set3AtHl, []) := rfl

/-- `001 cc 000` e, cc = 3 (C); `110 cc 010` low high, cc = 2 (NC) (47 R285, R282). -/
theorem test_decode_conditional_jumps :
    decodeBytes [0b00111000, 0xFE] = .ok (.jrCRel 0xFE, [])
      ∧ decodeBytes [0b11010010, 0x50, 0x01] = .ok (.jpNCImm16 0x0150, []) :=
  ⟨rfl, rfl⟩

/-- `110 cc 100` low high, cc = 1 (Z); `110 cc 000`, cc = 0 (NZ); `11 ttt 111`, t = 6 (47 R287, R289, R291). -/
theorem test_decode_calls_returns :
    decodeBytes [0b11001100, 0x34, 0x12] = .ok (.callZImm16 0x1234, [])
      ∧ decodeBytes [0b11000000] = .ok (.retNZ, []) ∧ decodeBytes [0b11110111] = .ok (.rst30, []) :=
  ⟨rfl, rfl, rfl⟩

/-- 0xF3 and 0x10 n: STOP has a second byte, of any value (48 R301, 30 R113). -/
theorem test_decode_system :
    decodeBytes [0b11110011] = .ok (.di, []) ∧ decodeBytes [0b00010000, 0x55] = .ok (.stop 0x55, []) :=
  ⟨rfl, rfl⟩

/-- An opcode with no instruction is one byte long (30 R112). -/
theorem test_decode_illegal : decodeBytes [0b11011101, 0x00] = .ok (.illegalDD, [0x00]) := rfl

/-- Bytes that end inside an instruction are refused by name (30 R103). -/
theorem test_decode_truncated :
    decodeBytes [0xCB] = .error (.truncated 0xCB) ∧ decodeBytes [0xCD, 0x34] = .error (.truncated 0xCD)
      ∧ decodeBytes [] = .error .noByte :=
  ⟨rfl, rfl, rfl⟩

/-- A table word of a CB row has 0xCB in its high half (30 R116); bit 0 of a one-byte row is the opcode's bit 0. -/
theorem test_decodeTableWord :
    decodeTableWord 16 0xCB37 = some .swapA ∧ decodeTableWord 8 0x41 = some .ldBC
      ∧ decodeTableWord 8 0x3E = some (.ldAImm8 0x00) :=
  ⟨rfl, rfl, rfl⟩

/-! ## One step of the vectors of spec 95 -/

/-- All eight registers zero, the vectors' default (spec 95). -/
def zeroRegs : Regs := { a := 0, f := 0, b := 0, c := 0, d := 0, e := 0, h := 0, l := 0 }

/-- The base state of the vectors: code at 0x0100, SP 0xFFFE, boot ROM unmapped, LCD and timer off (spec 95). -/
def vectorState (code : List Byte) : State :=
  placeBytes 0x0100 code { State.reset with pc := 0x0100, sp := 0xFFFE, bootRomEnabled := false }

/-- One step completes in `n` clocks, in a state that passes the check. -/
def stepGives (s : State) (n : Nat) (check : State → Bool) : Bool :=
  match step s with
  | .next t => t.clocks == n && check t
  | _ => false

/-- V1: `LD B,C` (R140). -/
theorem test_v1_ld_b_c :
    stepGives { vectorState [0x41] with regs := { zeroRegs with b := 0x11, c := 0x5A } } 4
      (fun s => s.regs.b == 0x5A && s.regs.c == 0x5A && s.pc == 0x0101) = true := by decide

/-- V3: `LD D,0x9C` (R141). -/
theorem test_v3_ld_d_0x9c :
    stepGives (vectorState [0x16, 0x9C]) 8
      (fun s => s.regs.d == 0x9C && s.pc == 0x0102) = true := by decide

/-- V4: `LD E,(HL)` (R142). -/
theorem test_v4_ld_e_at_hl :
    stepGives (placeByte 0xC123 0xAB { vectorState [0x5E] with regs := { zeroRegs with h := 0xC1, l := 0x23 } }) 8
      (fun s => s.regs.e == 0xAB && s.pc == 0x0101) = true := by decide

/-- V5: `LD (HL),B` (R143). -/
theorem test_v5_ld_at_hl_b :
    stepGives { vectorState [0x70] with regs := { zeroRegs with h := 0xC2, l := 0x00, b := 0x3C } } 8
      (fun s => (busRead 0xC200 s).1 == 0x3C && s.pc == 0x0101) = true := by decide

/-- V6: `LD (HL),0x99` (R144). -/
theorem test_v6_ld_at_hl_0x99 :
    stepGives { vectorState [0x36, 0x99] with regs := { zeroRegs with h := 0xDE, l := 0x00 } } 12
      (fun s => (busRead 0xDE00 s).1 == 0x99 && s.pc == 0x0102) = true := by decide

/-- V8: `LD A,(0xFEA0)` (R149, R64). -/
theorem test_v8_ld_a_at_0xfea0 :
    stepGives { vectorState [0xFA, 0xA0, 0xFE] with regs := { zeroRegs with a := 0x55 } } 16
      (fun s => s.regs.a == 0x00) = true := by decide

/-- V10: `LD A,(BC)` (R145). -/
theorem test_v10_ld_a_at_bc :
    stepGives (placeByte 0xC001 0x12 { vectorState [0x0A] with regs := { zeroRegs with b := 0xC0, c := 0x01 } }) 8
      (fun s => s.regs.a == 0x12) = true := by decide

/-- V12: `LD (BC),A` (R147). -/
theorem test_v12_ld_at_bc_a :
    stepGives { vectorState [0x02] with regs := { zeroRegs with b := 0xFF, c := 0x80, a := 0x5F } } 8
      (fun s => (busRead 0xFF80 s).1 == 0x5F) = true := by decide

/-- V13: `LD (DE),A` (R148). -/
theorem test_v13_ld_at_de_a :
    stepGives { vectorState [0x12] with regs := { zeroRegs with d := 0x20, e := 0x00, a := 0x5F } } 8
      (fun s => (busRead 0x2000 s).1 == 0x00) = true := by decide

/-- V15: `LD (0xC000),A` (R150). -/
theorem test_v15_ld_at_0xc000_a :
    stepGives { vectorState [0xEA, 0x00, 0xC0] with regs := { zeroRegs with a := 0x42 } } 16
      (fun s => (busRead 0xC000 s).1 == 0x42 && s.pc == 0x0103) = true := by decide

/-- V16: `LDH A,(0x80)` (R153). -/
theorem test_v16_ldh_a_at_0x80 :
    stepGives (placeByte 0xFF80 0xA5 (vectorState [0xF0, 0x80])) 12
      (fun s => s.regs.a == 0xA5 && s.pc == 0x0102) = true := by decide

/-- V17: `LDH (0xFF),A` (R154). -/
theorem test_v17_ldh_at_0xff_a :
    stepGives { vectorState [0xE0, 0xFF] with regs := { zeroRegs with a := 0x15 } } 12
      (fun s => s.ie == 0x15 && s.pc == 0x0102) = true := by decide

/-- V19: `LD A,(C)` (R155). -/
theorem test_v19_ld_a_at_c :
    stepGives { vectorState [0xF2] with regs := { zeroRegs with c := 0x44, a := 0x99 } } 8
      (fun s => s.regs.a == 0x00 && s.pc == 0x0101) = true := by decide

/-- V20: `LD (C),A` (R156). -/
theorem test_v20_ld_at_c_a :
    stepGives { vectorState [0xE2] with regs := { zeroRegs with c := 0x07, a := 0xFF } } 8
      (fun s => s.timer.tac == 0x07 && s.pc == 0x0101) = true := by decide

/-- V21: `LD (HL+),A` (R157). -/
theorem test_v21_ld_at_hl_inc_a :
    stepGives { vectorState [0x22] with regs := { zeroRegs with h := 0xC0, l := 0xFF, a := 0x01 } } 8
      (fun s => (busRead 0xC0FF s).1 == 0x01 && getHl s == 0xC100) = true := by decide

/-- V22: `LD A,(HL+)` (R158). -/
theorem test_v22_ld_a_at_hl_inc :
    stepGives { vectorState [0x2A] with regs := { zeroRegs with h := 0xFF, l := 0xFF }, ie := 0x1B } 8
      (fun s => s.regs.a == 0x1B && getHl s == 0x0000) = true := by decide

/-- V23: `LD (HL-),A` (R159). -/
theorem test_v23_ld_at_hl_dec_a :
    stepGives { vectorState [0x32] with regs := { zeroRegs with h := 0xC0, l := 0x00, a := 0x02 } } 8
      (fun s => (busRead 0xC000 s).1 == 0x02 && getHl s == 0xBFFF) = true := by decide

/-- V24: `LD A,(HL-)` (R160). -/
theorem test_v24_ld_a_at_hl_dec :
    stepGives { vectorState [0x3A] with regs := { zeroRegs with h := 0x00, l := 0x00 } } 8
      (fun s => s.regs.a == 0x00 && getHl s == 0xFFFF) = true := by decide

/-- V25: `LD BC,0x1234` (R170). -/
theorem test_v25_ld_bc_0x1234 :
    stepGives (vectorState [0x01, 0x34, 0x12]) 12
      (fun s => s.regs.b == 0x12 && s.regs.c == 0x34 && s.pc == 0x0103) = true := by decide

/-- V26: `LD SP,0xFFFE` (R170). -/
theorem test_v26_ld_sp_0xfffe :
    stepGives { vectorState [0x31, 0xFE, 0xFF] with sp := 0x0000 } 12
      (fun s => s.sp == 0xFFFE && s.pc == 0x0103) = true := by decide

/-- V27: `LD (0xC100),SP` (R171). -/
theorem test_v27_ld_at_0xc100_sp :
    stepGives { vectorState [0x08, 0x00, 0xC1] with sp := 0xABCD } 20
      (fun s => (busRead 0xC100 s).1 == 0xCD && (busRead 0xC101 s).1 == 0xAB && s.pc == 0x0103) = true := by decide

/-- V28: `LD SP,HL` (R172). -/
theorem test_v28_ld_sp_hl :
    stepGives { vectorState [0xF9] with regs := { zeroRegs with h := 0xD0, l := 0x00 }, sp := 0x0000 } 8
      (fun s => s.sp == 0xD000) = true := by decide

/-- V29: `PUSH BC` (R175). -/
theorem test_v29_push_bc :
    stepGives { vectorState [0xC5] with regs := { zeroRegs with b := 0x12, c := 0x34 }, sp := 0xD000 } 16
      (fun s => (busRead 0xCFFF s).1 == 0x12 && (busRead 0xCFFE s).1 == 0x34 && s.sp == 0xCFFE) = true := by decide

/-- V30: `POP DE` (R176). -/
theorem test_v30_pop_de :
    stepGives (placeByte 0xCFFF 0x12 (placeByte 0xCFFE 0x34 { vectorState [0xD1] with sp := 0xCFFE })) 12
      (fun s => s.regs.d == 0x12 && s.regs.e == 0x34 && s.sp == 0xD000) = true := by decide

/-- V31: `PUSH AF` (R175). -/
theorem test_v31_push_af :
    stepGives { vectorState [0xF5] with regs := { zeroRegs with a := 0x9A, f := 0xB0 }, sp := 0xC002 } 16
      (fun s => (busRead 0xC001 s).1 == 0x9A && (busRead 0xC000 s).1 == 0xB0 && s.sp == 0xC000) = true := by decide

/-- V32: `POP AF` (R176). -/
theorem test_v32_pop_af :
    stepGives (placeByte 0xC001 0x12 (placeByte 0xC000 0xFF { vectorState [0xF1] with sp := 0xC000 })) 12
      (fun s => s.regs.a == 0x12 && s.regs.f == 0xF0 && s.sp == 0xC002) = true := by decide

/-- V35: `ADD A,B` (R185, R193). -/
theorem test_v35_add_a_b :
    stepGives { vectorState [0x80] with regs := { zeroRegs with a := 0x0F, b := 0x01, f := 0xF0 } } 4
      (fun s => s.regs.a == 0x10 && s.regs.f == 0x20) = true := by decide

/-- V38: `ADD A,0xFF` (R195). -/
theorem test_v38_add_a_0xff :
    stepGives { vectorState [0xC6, 0xFF] with regs := { zeroRegs with a := 0x01 } } 8
      (fun s => s.regs.a == 0x00 && s.regs.f == 0xB0) = true := by decide

/-- V39: `ADC A,C` (R186, R196). -/
theorem test_v39_adc_a_c :
    stepGives { vectorState [0x89] with regs := { zeroRegs with a := 0xE1, c := 0x1E, f := 0x10 } } 4
      (fun s => s.regs.a == 0x00 && s.regs.f == 0xB0) = true := by decide

/-- V41: `ADC A,0xFF` (R198). -/
theorem test_v41_adc_a_0xff :
    stepGives { vectorState [0xCE, 0xFF] with regs := { zeroRegs with a := 0xFF, f := 0x10 } } 8
      (fun s => s.regs.a == 0xFF && s.regs.f == 0x30) = true := by decide

/-- V43: `SUB B` (R187, R199). -/
theorem test_v43_sub_b :
    stepGives { vectorState [0x90] with regs := { zeroRegs with a := 0x00, b := 0x01 } } 4
      (fun s => s.regs.a == 0xFF && s.regs.f == 0x70) = true := by decide

/-- V44: `SUB A` (R199). -/
theorem test_v44_sub_a :
    stepGives { vectorState [0x97] with regs := { zeroRegs with a := 0x5C } } 4
      (fun s => s.regs.a == 0x00 && s.regs.f == 0xC0) = true := by decide

/-- V46: `SUB 0x0F` (R201). -/
theorem test_v46_sub_0x0f :
    stepGives { vectorState [0xD6, 0x0F] with regs := { zeroRegs with a := 0x3E } } 8
      (fun s => s.regs.a == 0x2F && s.regs.f == 0x60) = true := by decide

/-- V47: `SBC A,H` (R188, R202). -/
theorem test_v47_sbc_a_h :
    stepGives { vectorState [0x9C] with regs := { zeroRegs with a := 0x3B, h := 0x2A, f := 0x10 } } 4
      (fun s => s.regs.a == 0x10 && s.regs.f == 0x40) = true := by decide

/-- V49: `SBC A,0xFF` (R204). -/
theorem test_v49_sbc_a_0xff :
    stepGives { vectorState [0xDE, 0xFF] with regs := { zeroRegs with a := 0x00, f := 0x10 } } 8
      (fun s => s.regs.a == 0x00 && s.regs.f == 0xF0) = true := by decide

/-- V52: `AND (HL)` (R206). -/
theorem test_v52_and_at_hl :
    stepGives (placeByte 0xC000 0x0F { vectorState [0xA6] with
        regs := { zeroRegs with a := 0xF0, h := 0xC0, l := 0x00 } }) 8
      (fun s => s.regs.a == 0x00 && s.regs.f == 0xA0) = true := by decide

/-- V54: `XOR A` (R190, R208). -/
theorem test_v54_xor_a :
    stepGives { vectorState [0xAF] with regs := { zeroRegs with a := 0xC3, f := 0xF0 } } 4
      (fun s => s.regs.a == 0x00 && s.regs.f == 0x80) = true := by decide

/-- V57: `OR C` (R191, R211). -/
theorem test_v57_or_c :
    stepGives { vectorState [0xB1] with regs := { zeroRegs with a := 0x00, c := 0x00, f := 0x70 } } 4
      (fun s => s.regs.a == 0x00 && s.regs.f == 0x80) = true := by decide

/-- V60: `CP B` (R192, R214). -/
theorem test_v60_cp_b :
    stepGives { vectorState [0xB8] with regs := { zeroRegs with a := 0x3C, b := 0x2F } } 4
      (fun s => s.regs.a == 0x3C && s.regs.f == 0x60) = true := by decide

/-- V63: `INC A` (R217). -/
theorem test_v63_inc_a :
    stepGives { vectorState [0x3C] with regs := { zeroRegs with a := 0xFF, f := 0x10 } } 4
      (fun s => s.regs.a == 0x00 && s.regs.f == 0xB0) = true := by decide

/-- V65: `INC (HL)` (R218). -/
theorem test_v65_inc_at_hl :
    stepGives (placeByte 0xC000 0x4F { vectorState [0x34] with
        regs := { zeroRegs with h := 0xC0, l := 0x00, f := 0x10 } }) 12
      (fun s => (busRead 0xC000 s).1 == 0x50 && s.regs.f == 0x30) = true := by decide

/-- V66: `DEC A` (R219). -/
theorem test_v66_dec_a :
    stepGives { vectorState [0x3D] with regs := { zeroRegs with a := 0x00, f := 0x10 } } 4
      (fun s => s.regs.a == 0xFF && s.regs.f == 0x70) = true := by decide

/-- V69: `DEC (HL)` (R220). -/
theorem test_v69_dec_at_hl :
    stepGives (placeByte 0xC000 0x00 { vectorState [0x35] with
        regs := { zeroRegs with h := 0xC0, l := 0x00, f := 0x00 } }) 12
      (fun s => (busRead 0xC000 s).1 == 0xFF && s.regs.f == 0x60) = true := by decide

/-- V70: `ADD HL,BC` (R225). -/
theorem test_v70_add_hl_bc :
    stepGives { vectorState [0x09] with
        regs := { zeroRegs with h := 0x8A, l := 0x23, b := 0x06, c := 0x05, f := 0x80 } } 8
      (fun s => getHl s == 0x9028 && s.regs.f == 0xA0) = true := by decide

/-- V71: `ADD HL,HL` (R225). -/
theorem test_v71_add_hl_hl :
    stepGives { vectorState [0x29] with regs := { zeroRegs with h := 0x8A, l := 0x23, f := 0x00 } } 8
      (fun s => getHl s == 0x1446 && s.regs.f == 0x30) = true := by decide

/-- V74: `INC BC` (R226). -/
theorem test_v74_inc_bc :
    stepGives { vectorState [0x03] with regs := { zeroRegs with b := 0xFF, c := 0xFF, f := 0xF0 } } 8
      (fun s => s.regs.b == 0x00 && s.regs.c == 0x00 && s.regs.f == 0xF0) = true := by decide

/-- V75: `INC SP` (R226). -/
theorem test_v75_inc_sp :
    stepGives { vectorState [0x33] with sp := 0x00FF } 8
      (fun s => s.sp == 0x0100) = true := by decide

/-- V76: `DEC DE` (R227). -/
theorem test_v76_dec_de :
    stepGives { vectorState [0x1B] with regs := { zeroRegs with d := 0x00, e := 0x00, f := 0x00 } } 8
      (fun s => s.regs.d == 0xFF && s.regs.e == 0xFF && s.regs.f == 0x00) = true := by decide

/-- V77: `DEC HL` (R227). -/
theorem test_v77_dec_hl :
    stepGives { vectorState [0x2B] with regs := { zeroRegs with h := 0x10, l := 0x00 } } 8
      (fun s => getHl s == 0x0FFF) = true := by decide

/-- V78: `ADD SP,0x01` (R228). -/
theorem test_v78_add_sp_0x01 :
    stepGives { vectorState [0xE8, 0x01] with regs := { zeroRegs with f := 0xC0 }, sp := 0x00FF } 16
      (fun s => s.sp == 0x0100 && s.regs.f == 0x30) = true := by decide

/-- V82: `LD HL,SP+2` (R229). -/
theorem test_v82_ld_hl_sp_inc_2 :
    stepGives { vectorState [0xF8, 0x02] with sp := 0xFFFE } 12
      (fun s => getHl s == 0x0000 && s.sp == 0xFFFE && s.regs.f == 0x30) = true := by decide

/-- V84: `RLCA` (R235). -/
theorem test_v84_rlca :
    stepGives { vectorState [0x07] with regs := { zeroRegs with a := 0x85, f := 0x80 } } 4
      (fun s => s.regs.a == 0x0B && s.regs.f == 0x10) = true := by decide

/-- V86: `RLA` (R236). -/
theorem test_v86_rla :
    stepGives { vectorState [0x17] with regs := { zeroRegs with a := 0x95, f := 0x10 } } 4
      (fun s => s.regs.a == 0x2B && s.regs.f == 0x10) = true := by decide

/-- V88: `RRCA` (R237). -/
theorem test_v88_rrca :
    stepGives { vectorState [0x0F] with regs := { zeroRegs with a := 0x3B, f := 0x00 } } 4
      (fun s => s.regs.a == 0x9D && s.regs.f == 0x10) = true := by decide

/-- V89: `RRA` (R238). -/
theorem test_v89_rra :
    stepGives { vectorState [0x1F] with regs := { zeroRegs with a := 0x81, f := 0x00 } } 4
      (fun s => s.regs.a == 0x40 && s.regs.f == 0x10) = true := by decide

/-- V91: `DAA` (R239). -/
theorem test_v91_daa :
    stepGives { vectorState [0x27] with regs := { zeroRegs with a := 0x10, f := 0x20 } } 4
      (fun s => s.regs.a == 0x16 && s.regs.f == 0x00) = true := by decide

/-- V92: `DAA` (R239). -/
theorem test_v92_daa :
    stepGives { vectorState [0x27] with regs := { zeroRegs with a := 0x7D, f := 0x00 } } 4
      (fun s => s.regs.a == 0x83 && s.regs.f == 0x00) = true := by decide

/-- V98: `CPL` (R240). -/
theorem test_v98_cpl :
    stepGives { vectorState [0x2F] with regs := { zeroRegs with a := 0x35, f := 0x90 } } 4
      (fun s => s.regs.a == 0xCA && s.regs.f == 0xF0) = true := by decide

/-- V99: `SCF` (R241). -/
theorem test_v99_scf :
    stepGives { vectorState [0x37] with regs := { zeroRegs with f := 0xE0 } } 4
      (fun s => s.regs.f == 0x90) = true := by decide

/-- V100: `CCF` (R242). -/
theorem test_v100_ccf :
    stepGives { vectorState [0x3F] with regs := { zeroRegs with f := 0xF0 } } 4
      (fun s => s.regs.f == 0x80) = true := by decide

/-- V103: `RLC A` (R251). -/
theorem test_v103_rlc_a :
    stepGives { vectorState [0xCB, 0x07] with regs := { zeroRegs with a := 0x00, f := 0x10 } } 8
      (fun s => s.regs.a == 0x00 && s.regs.f == 0x80) = true := by decide

/-- V104: `RLC (HL)` (R252). -/
theorem test_v104_rlc_at_hl :
    stepGives (placeByte 0xC000 0x80 { vectorState [0xCB, 0x06] with
        regs := { zeroRegs with h := 0xC0, l := 0x00 } }) 16
      (fun s => (busRead 0xC000 s).1 == 0x01 && s.regs.f == 0x10) = true := by decide

/-- V106: `RRC (HL)` (R254). -/
theorem test_v106_rrc_at_hl :
    stepGives (placeByte 0xC000 0x00 { vectorState [0xCB, 0x0E] with
        regs := { zeroRegs with h := 0xC0, l := 0x00 } }) 16
      (fun s => (busRead 0xC000 s).1 == 0x00 && s.regs.f == 0x80) = true := by decide

/-- V108: `RL (HL)` (R256). -/
theorem test_v108_rl_at_hl :
    stepGives (placeByte 0xC000 0x11 { vectorState [0xCB, 0x16] with
        regs := { zeroRegs with h := 0xC0, l := 0x00, f := 0x10 } }) 16
      (fun s => (busRead 0xC000 s).1 == 0x23 && s.regs.f == 0x00) = true := by decide

/-- V110: `RR (HL)` (R258). -/
theorem test_v110_rr_at_hl :
    stepGives (placeByte 0xC000 0x8A { vectorState [0xCB, 0x1E] with
        regs := { zeroRegs with h := 0xC0, l := 0x00, f := 0x10 } }) 16
      (fun s => (busRead 0xC000 s).1 == 0xC5 && s.regs.f == 0x00) = true := by decide

/-- V112: `SLA (HL)` (R260). -/
theorem test_v112_sla_at_hl :
    stepGives (placeByte 0xC000 0xFF { vectorState [0xCB, 0x26] with
        regs := { zeroRegs with h := 0xC0, l := 0x00 } }) 16
      (fun s => (busRead 0xC000 s).1 == 0xFE && s.regs.f == 0x10) = true := by decide

/-- V114: `SRA (HL)` (R262). -/
theorem test_v114_sra_at_hl :
    stepGives (placeByte 0xC000 0x01 { vectorState [0xCB, 0x2E] with
        regs := { zeroRegs with h := 0xC0, l := 0x00 } }) 16
      (fun s => (busRead 0xC000 s).1 == 0x00 && s.regs.f == 0x90) = true := by decide

/-- V115: `SWAP A` (R263). -/
theorem test_v115_swap_a :
    stepGives { vectorState [0xCB, 0x37] with regs := { zeroRegs with a := 0xF1, f := 0xF0 } } 8
      (fun s => s.regs.a == 0x1F && s.regs.f == 0x00) = true := by decide

/-- V116: `SWAP (HL)` (R264). -/
theorem test_v116_swap_at_hl :
    stepGives (placeByte 0xC000 0x00 { vectorState [0xCB, 0x36] with
        regs := { zeroRegs with h := 0xC0, l := 0x00 } }) 16
      (fun s => (busRead 0xC000 s).1 == 0x00 && s.regs.f == 0x80) = true := by decide

/-- V118: `SRL (HL)` (R266). -/
theorem test_v118_srl_at_hl :
    stepGives (placeByte 0xC000 0xFF { vectorState [0xCB, 0x3E] with
        regs := { zeroRegs with h := 0xC0, l := 0x00 } }) 16
      (fun s => (busRead 0xC000 s).1 == 0x7F && s.regs.f == 0x10) = true := by decide

/-- V119: `BIT 7,H` (R267). -/
theorem test_v119_bit_7_h :
    stepGives { vectorState [0xCB, 0x7C] with regs := { zeroRegs with h := 0x80, f := 0x10 } } 8
      (fun s => s.regs.h == 0x80 && s.regs.f == 0x30) = true := by decide

/-- V121: `BIT 3,(HL)` (R268). -/
theorem test_v121_bit_3_at_hl :
    stepGives (placeByte 0xC000 0x08 { vectorState [0xCB, 0x5E] with
        regs := { zeroRegs with h := 0xC0, l := 0x00, f := 0x00 } }) 12
      (fun s => (busRead 0xC000 s).1 == 0x08 && s.regs.f == 0x20) = true := by decide

/-- V122: `RES 7,A` (R269). -/
theorem test_v122_res_7_a :
    stepGives { vectorState [0xCB, 0xBF] with regs := { zeroRegs with a := 0xFF, f := 0xF0 } } 8
      (fun s => s.regs.a == 0x7F && s.regs.f == 0xF0) = true := by decide

/-- V123: `RES 0,(HL)` (R270). -/
theorem test_v123_res_0_at_hl :
    stepGives (placeByte 0xC000 0xFF { vectorState [0xCB, 0x86] with
        regs := { zeroRegs with h := 0xC0, l := 0x00 } }) 16
      (fun s => (busRead 0xC000 s).1 == 0xFE) = true := by decide

/-- V124: `SET 4,B` (R271). -/
theorem test_v124_set_4_b :
    stepGives { vectorState [0xCB, 0xE0] with regs := { zeroRegs with b := 0x00, f := 0x00 } } 8
      (fun s => s.regs.b == 0x10 && s.regs.f == 0x00) = true := by decide

/-- V125: `SET 7,(HL)` (R272). -/
theorem test_v125_set_7_at_hl :
    stepGives (placeByte 0xC000 0x00 { vectorState [0xCB, 0xFE] with
        regs := { zeroRegs with h := 0xC0, l := 0x00 } }) 16
      (fun s => (busRead 0xC000 s).1 == 0x80) = true := by decide

/-- V126: `JP 0x8000` (R281). -/
theorem test_v126_jp_0x8000 :
    stepGives (vectorState [0xC3, 0x00, 0x80]) 16
      (fun s => s.pc == 0x8000) = true := by decide

/-- V127: `JP NZ,0x0150` (R282). -/
theorem test_v127_jp_nz_0x0150 :
    stepGives { vectorState [0xC2, 0x50, 0x01] with regs := { zeroRegs with f := 0x00 } } 16
      (fun s => s.pc == 0x0150) = true := by decide

/-- V129: `JP C,0x0150` (R282). -/
theorem test_v129_jp_c_0x0150 :
    stepGives { vectorState [0xDA, 0x50, 0x01] with regs := { zeroRegs with f := 0x10 } } 16
      (fun s => s.pc == 0x0150) = true := by decide

/-- V130: `JP HL` (R283). -/
theorem test_v130_jp_hl :
    stepGives { vectorState [0xE9] with regs := { zeroRegs with h := 0xC0, l := 0x00 } } 4
      (fun s => s.pc == 0xC000) = true := by decide

/-- V131: `JR +5` (R284). -/
theorem test_v131_jr_inc_5 :
    stepGives (vectorState [0x18, 0x05]) 12
      (fun s => s.pc == 0x0107) = true := by decide

/-- V134: `JR Z,+0x7F` (R285). -/
theorem test_v134_jr_z_inc_0x7f :
    stepGives { vectorState [0x28, 0x7F] with regs := { zeroRegs with f := 0x80 } } 12
      (fun s => s.pc == 0x0181) = true := by decide

/-- V136: `JR NC,-4` (R285). -/
theorem test_v136_jr_nc_dec_4 :
    stepGives { vectorState [0x30, 0xFC] with regs := { zeroRegs with f := 0x00 } } 12
      (fun s => s.pc == 0x00FE) = true := by decide

/-- V137: `CALL 0x1234` (R286). -/
theorem test_v137_call_0x1234 :
    stepGives { vectorState [0xCD, 0x34, 0x12] with sp := 0xD000 } 24
      (fun s => s.pc == 0x1234 && s.sp == 0xCFFE &&
        (busRead 0xCFFF s).1 == 0x01 && (busRead 0xCFFE s).1 == 0x03) = true := by decide

/-- V138: `CALL Z,0x1234` (R287). -/
theorem test_v138_call_z_0x1234 :
    stepGives { vectorState [0xCC, 0x34, 0x12] with regs := { zeroRegs with f := 0x80 }, sp := 0xD000 } 24
      (fun s => s.pc == 0x1234 && s.sp == 0xCFFE) = true := by decide

/-- V140: `RET` (R288). -/
theorem test_v140_ret :
    stepGives (placeByte 0xCFFF 0x01 (placeByte 0xCFFE 0x03 { vectorState [0xC9] with sp := 0xCFFE })) 16
      (fun s => s.pc == 0x0103 && s.sp == 0xD000) = true := by decide

/-- V141: `RET NC` (R289). -/
theorem test_v141_ret_nc :
    stepGives (placeByte 0xCFFF 0x01 (placeByte 0xCFFE 0x03 { vectorState [0xD0] with
        regs := { zeroRegs with f := 0x00 }, sp := 0xCFFE })) 20
      (fun s => s.pc == 0x0103 && s.sp == 0xD000) = true := by decide

/-- V143: `RETI` (R290). -/
theorem test_v143_reti :
    stepGives (placeByte 0xCFFF 0x01 (placeByte 0xCFFE 0x03 { vectorState [0xD9] with
        sp := 0xCFFE, ime := false })) 16
      (fun s => s.pc == 0x0103 && s.sp == 0xD000 && s.ime) = true := by decide

/-- V144: `RST 0x28` (R291). -/
theorem test_v144_rst_0x28 :
    stepGives { vectorState [0xEF] with sp := 0xD000 } 16
      (fun s => s.pc == 0x0028 && s.sp == 0xCFFE &&
        (busRead 0xCFFF s).1 == 0x01 && (busRead 0xCFFE s).1 == 0x01) = true := by decide

/-- V146: `NOP` (R300). -/
theorem test_v146_nop :
    stepGives { vectorState [0x00] with regs := { zeroRegs with f := 0xF0 } } 4
      (fun s => s.pc == 0x0101 && s.regs.f == 0xF0) = true := by decide

/-- V147: `DI` (R301). -/
theorem test_v147_di :
    stepGives { vectorState [0xF3] with ime := true } 4
      (fun s => !s.ime && s.pc == 0x0101) = true := by decide

/-- V149: `EI` (R302, R323). -/
theorem test_v149_ei :
    stepGives { vectorState [0xFB] with ime := false, ie := 0x01, ifr := 0x01, sp := 0xD000 } 4
      (fun s => s.ime && s.pc == 0x0101 && s.sp == 0xD000 && s.ifr == 0x01) = true := by decide

/-- V152: `HALT` (R304). -/
theorem test_v152_halt :
    stepGives { vectorState [0x76] with ime := false, ie := 0x00, ifr := 0x00 } 4
      (fun s => s.halt && !s.haltBug && s.pc == 0x0101) = true := by decide

/-! ## The Step, interrupts, HALT, stops -/

/-- The row PREFIX CB fetches a second byte and runs that entry: CB 37 is SWAP A (30 R109, 46 R263). -/
theorem test_prefix_row :
    (match exec .prefixCb
        { vectorState [0xCB, 0x37] with pc := 0x0101, regs := { zeroRegs with a := 0xF1 } } with
      | .next t => t.regs.a == 0x1F && t.pc == 0x0102
      | _ => false) = true := by decide

/-- The HALT bug: INC B after it is fetched without PC advancing, and the bug is spent (40 R126). -/
theorem test_haltBug_fetch :
    stepGives { vectorState [0x04] with haltBug := true } 4
      (fun s => s.regs.b == 0x01 && s.pc == 0x0100 && !s.haltBug) = true := by decide

/-- HALT with IME clear and an interrupt pending arms the HALT bug (48 R304). -/
theorem test_halt_arms_bug :
    stepGives { vectorState [0x76] with ie := 0x01, ifr := 0x01 } 4
      (fun s => s.haltBug && !s.halt && s.pc == 0x0101) = true := by decide

/-- A halted step takes 4 clocks and fetches nothing (40 R125). -/
theorem test_halted_cycle :
    stepGives { vectorState [0x04] with halt := true } 4
      (fun s => s.halt && s.pc == 0x0100 && s.regs.b == 0x00) = true := by decide

/-- Dispatch after NOP: the lower number wins, its request is cleared, PC is pushed, 20 clocks (60 R324, R325). -/
theorem test_dispatch_priority :
    stepGives { vectorState [0x00] with ie := 0x1F, ifr := 0b10100, ime := true, sp := 0xD000 } 24
      (fun s => s.pc == 0x0050 && s.ifr == 0b10000 && !s.ime && s.sp == 0xCFFE
        && (busRead 0xCFFF s).1 == 0x01 && (busRead 0xCFFE s).1 == 0x01) = true := by decide

/-- EI at one step's end does not let that step dispatch (60 R323). -/
theorem test_ei_does_not_dispatch_at_once :
    stepGives { vectorState [0xFB] with ie := 0x01, ifr := 0x01 } 4
      (fun s => s.pc == 0x0101 && s.ime) = true := by decide

/-- An opcode with no instruction: the fault, with the opcode and its address (48 R306). -/
theorem test_illegal_faults :
    (match step (vectorState [0xED]) with
      | .fault (.illegalOpcode o pc) => o == 0xED && pc == 0x0100
      | _ => false) = true := by decide

/-- STOP is refused (48 R305). -/
theorem test_stop_refused :
    (match step (vectorState [0x10, 0x00]) with
      | .refused .stop => true
      | _ => false) = true := by decide

/-- `withFetchWord` places an instruction where the next step from reset fetches it: LD B,n with n = 0 (log 6). -/
theorem test_withFetchWord_runs :
    stepGives ({ State.reset with regs := { zeroRegs with b := 0x99 } }.withFetchWord 8 0x06) 8
      (fun s => s.regs.b == 0x00 && s.pc == 0x0002) = true := by decide

/-! ## Router and devices -/

/-- The boot ROM overlays 0x0000 to 0x00FF while it is mapped (20 R61). -/
theorem test_bootRom_overlay :
    ((busRead 0x00FF { State.reset with bootRom := [(0xFF, 0x50)], mem := [(0xFF, 0x11)] }).1 == 0x50
      && (busRead 0x00FF
            { State.reset with bootRom := [(0xFF, 0x50)], mem := [(0xFF, 0x11)], bootRomEnabled := false }).1
          == 0x11) = true := by decide

/-- DIV reads the high byte of IC and any write clears IC (20 R67, R68). -/
theorem test_div_write :
    ((busRead 0xFF04 { State.reset with timer := { State.reset.timer with ic := 0xABCC } }).1 == 0xAB
      && (busWrite 0xFF04 0x77 { State.reset with timer := { State.reset.timer with ic := 0xABCC } }).timer.ic
          == 0) = true := by decide

/-- A counted overflow shows TIMA 0x00 first and reloads from TMA with the request one sub-step later (61 R361). -/
theorem test_timer_overflow :
    let s : State := { State.reset with
      timer := { ic := 0x000C, tima := 0xFF, tma := 0x23, tac := 5, overflowPending := false } }
    ((timerTick 4 s).timer.tima == 0x00 && (timerTick 4 s).ifr == 0 && (timerTick 8 s).timer.tima == 0x23
      && (timerTick 8 s).ifr == 0b00100) = true := by decide

/-- One byte of the DMA copy, the last: from 0xC09F to OAM, past the OAM gate (20 R72). -/
theorem test_dma_copies_last_byte :
    let s : State := { State.reset with mem := [(0xC09F, 0x34)], ppu := { Ppu.reset with mode := .transfer } }
    ((dmaCopyByte 0xC0 s 159).mem.read 0xFE9F == 0x34) = true := by decide

/-- Switching the LCD on starts line 0 in mode 2, and LY = LYC raises the STAT line if enabled (62 R390, R397). -/
theorem test_lcd_on :
    let s := busWrite 0xFF40 0x80 { State.reset with ppu := { Ppu.reset with statEn := 0b1000 } }
    (s.ppu.mode == .oamSearch && s.ppu.statLine && s.ifr == 0b00010) = true := by decide

/-- Dot 80 of a visible line enters mode 3 (62 R389). -/
theorem test_enters_mode3 :
    let s : State := { State.reset with ppu := { Ppu.reset with lcdc := 0x80, mode := .oamSearch, dot := 79 } }
    ((ppuClock s).ppu.mode == .transfer && (ppuClock s).ppu.dot == 80) = true := by decide

/-- Line 144 requests VBlank (62 R392). -/
theorem test_vblank :
    let s : State := { State.reset with ppu := { Ppu.reset with lcdc := 0x80, ly := 143, dot := 455 } }
    ((ppuClock s).ppu.mode == .vblank && (ppuClock s).ifr == 0b00001 && (ppuClock s).ppu.frames == 1) = true := by
  decide

/-- The tie-break of sprites: equal X keeps OAM order, a smaller X comes first, X = 0 is not selected (62 R406). -/
theorem test_oam_search_order :
    let mem : Memory := [(0xFE00, 16), (0xFE01, 20), (0xFE02, 1), (0xFE04, 16), (0xFE05, 8), (0xFE06, 2),
      (0xFE08, 16), (0xFE09, 20), (0xFE0A, 3), (0xFE0C, 16), (0xFE0E, 4)]
    ((sortByX (selectSprites mem 0 8 [0, 1, 2, 3] []) []).map (·.tileIndex) == [2, 1, 3]) = true := by decide

/-! ## Launch -/

/-- A boot ROM of any other size than 256 bytes makes no machine (70 R450). -/
theorem test_bootRom_size : loadBootRom [0x31, 0xFE, 0xFF] State.reset = none := rfl

/-- Profile direct: PC at the entry point, boot ROM unmapped, F and IC masked (10 R45). -/
theorem test_launchDirect :
    (match launchDirect 0x0100 { State.reset with
        regs := { zeroRegs with f := 0xFF }, timer := { State.reset.timer with ic := 0x1237 } } with
      | some s => s.pc == 0x0100 && !s.bootRomEnabled && s.regs.f == 0xF0 && s.timer.ic == 0x1234
      | none => false) = true := by decide

/-- Profile direct refuses a PPU state outside the invariants: LY 154, or line 144 outside mode 1 with the LCD on (10 R41,
R45). -/
theorem test_launchDirect_refuses :
    launchDirect 0x0100 { State.reset with ppu := { Ppu.reset with lcdc := 0x80, ly := 154, mode := .vblank } } = none
      ∧ launchDirect 0x0100 { State.reset with ppu := { Ppu.reset with lcdc := 0x80, ly := 144 } } = none := by decide

/-- A cartridge image longer than its ROM leaves video RAM alone (20 R66, log 17). -/
theorem test_loadCartridge_end :
    (loadCartridge 0x7FFF [0x12, 0x34] State.reset).mem = [(0x7FFF, 0x12)] := by decide

/-- The worked line of 62 R442: tile 1 in the first map cell, its first row 0x3C, 0x7E, at SCX 0 and at SCX 3. -/
theorem test_lineShade :
    let mem : Memory := [(0x8010, 0x3C), (0x8011, 0x7E), (0x9800, 0x01)]
    let p : Ppu := { Ppu.reset with lcdc := 0x91, bgp := 0xE4 }
    (List.range 9).map (lineShade mem p) = [0, 2, 3, 3, 3, 3, 2, 0, 0]
      ∧ (List.range 5).map (lineShade mem { p with scx := 3 }) = [3, 3, 3, 2, 0]
      ∧ lineLength p = 176 ∧ lineLength { p with scx := 3 } = 179 := by decide

/-! ## Witnesses: concrete states and operands that meet the hypotheses of each statement, clause by clause -/

theorem witness_DecodeInvertsEncode :
    Instr.wellFormed (.ldAtImm16A 0xFFFF) = true ∧ Instr.wellFormed .set7A = true := ⟨rfl, rfl⟩

theorem witness_EncodeInvertsDecode :
    decodeBytes [0xFA, 0xFF, 0x00, 0x01] = .ok (.ldAAtImm16 0x00FF, [0x01])
      ∧ [0xFA, 0xFF].length < opLength 0xFA ∧ opLength 0xFA ≤ [0xFA, 0xFF, 0x00].length :=
  ⟨rfl, by decide, by decide⟩

theorem witness_StepRunsTheDecodedInstruction :
    let s := vectorState [0xEA, 0x00, 0xC0]
    s.halt = false ∧ s.haltBug = false ∧ (∀ j < 3, (busRead (s.pc + BitVec.ofNat 16 j) s).2 = s)
      ∧ decodeBytes ((List.range 3).map fun j => (busRead (s.pc + BitVec.ofNat 16 j) s).1)
          = .ok (.ldAtImm16A 0xC000, []) := by
  refine ⟨rfl, rfl, ?_, rfl⟩
  decide

theorem witness_StepRunsTheDecodedInstruction_halted :
    ({ State.reset with halt := true } : State).halt = true ∧ pendingInterrupts State.reset = 0 := ⟨rfl, rfl⟩

/-- A step that completes: the hypothesis of the statements about a next state. -/
theorem witness_step_completes : stepGives State.reset 4 (fun _ => true) = true := by decide

theorem witness_DispatchUsesImeOfEntry : State.reset.ime = false ∧ State.reset.halt = false := ⟨rfl, rfl⟩

theorem witness_DispatchTakesLowestPending :
    pendingInterrupts { State.reset with ie := 0x01, ifr := 0b00001 } ≠ 0
      ∧ pendingInterrupts { State.reset with ie := 0xF0, ifr := 0b10000 } ≠ 0 := by decide

theorem witness_HaltEndsExactlyWhenPending :
    let s : State := { State.reset with ie := 0xE0, ifr := 0b11111 }
    s.ie.toNat % 32 &&& s.ifr.toNat = 0 := by decide

theorem witness_OnlyNamedInstructionsWriteImeAndHalt :
    exec .ei State.reset = .next { State.reset with ime := true }
      ∧ exec .halt State.reset = .next { State.reset with halt := true }
      ∧ exec .halt { State.reset with ie := 0x10, ifr := 0b10000 }
          = .next { State.reset with ie := 0x10, ifr := 0b10000, haltBug := true } :=
  ⟨rfl, rfl, rfl⟩

theorem witness_SystemInstructionResults :
    let s : State := { State.reset with ie := 0x10, ifr := 0b10000 }
    ({ s with ime := true } : State).ime = true ∧ s.ime = false ∧ s.ie.toNat % 32 &&& s.ifr.toNat ≠ 0
      ∧ State.reset.ime = false ∧ State.reset.ie.toNat % 32 &&& State.reset.ifr.toNat = 0 := by decide

theorem witness_OpcodesWithNoInstructionFault :
    (Instr.illegalD3, 0xD3) ∈ Form.illegal ∧ (Instr.illegalFD, 0xFD) ∈ Form.illegal
      ∧ (vectorState [0xFD]).halt = false ∧ (busRead (vectorState [0xFD]).pc (vectorState [0xFD])).1 = 0xFD := by
  decide

theorem witness_StopIsRefused :
    (vectorState [0x10]).halt = false ∧ (busRead (vectorState [0x10]).pc (vectorState [0x10])).1 = 0x10 := by decide

theorem witness_PushThenPopRestores :
    let s : State := { State.reset with sp := 0xE001, regs := { zeroRegs with f := 0xF0 } }
    s.regs.f.extractLsb' 0 4 = 0 ∧ s.mem.wf ∧ storesByte s (s.sp - 1) = true ∧ storesByte s (s.sp - 2) = true := by
  decide

theorem witness_alu_operations :
    (AluOp.adc = .add ∨ AluOp.adc = .adc) ∧ (AluOp.cp = .sub ∨ AluOp.cp = .sbc ∨ AluOp.cp = .cp)
      ∧ (AluOp.or = .and ∨ AluOp.or = .xor ∨ AluOp.or = .or) := by decide

theorem witness_AccumulatorRotateResults :
    ∀ i ∈ [Instr.rlca, .rrca, .rla, .rra],
      ∃ op, (i, op) ∈ [(Instr.rlca, ShiftOp.rlc), (.rrca, .rrc), (.rla, .rl), (.rra, .rr)] := by
  intro i hi
  fin_cases hi
  · exact ⟨.rlc, by decide⟩
  · exact ⟨.rrc, by decide⟩
  · exact ⟨.rl, by decide⟩
  · exact ⟨.rr, by decide⟩

theorem witness_DaaAfterDecimalArithmetic : 0 < 100 ∧ 99 < 100 := by decide

theorem witness_RouterWritesByRegion :
    Memory.wf [(0xC000, 0x01), (0xFFFE, 0xFF)] ∧ State.reset.mem.wf
      ∧ (0xE000 ≤ (0xE000 : Word).toNat ∧ (0xE000 : Word).toNat ≤ 0xFDFF)
      ∧ (0xE000 ≤ (0xFDFF : Word).toNat ∧ (0xFDFF : Word).toNat ≤ 0xFDFF) := by decide

theorem witness_BlockedAccessesReadFF :
    let s : State := { State.reset with pc := 0x8000, ppu := { Ppu.reset with lcdc := 0x80, mode := .transfer } }
    let o : State := { State.reset with ppu := { Ppu.reset with lcdc := 0x80, mode := .oamSearch } }
    gated s 0x8000 = true ∧ gated s 0x9FFF = true ∧ gated s 0xFE00 = true ∧ gated o 0xFE9F = true
      ∧ gated o 0x9FFF = false ∧ gated s 0xFEA0 = false ∧ gated s 0x7FFF = false ∧ gated s 0xA000 = false
      ∧ (s.halt = false ∧ gated s s.pc = true)
      ∧ PpuInv State.reset.ppu ∧ State.reset.ppu.lcdOn = false := by decide

theorem witness_UnmappedReadsZero :
    (0xFEA0 ≤ (0xFEA0 : Word).toNat ∧ (0xFEA0 : Word).toNat ≤ 0xFEFF)
      ∧ (0xFEA0 ≤ (0xFEFF : Word).toNat ∧ (0xFEFF : Word).toNat ≤ 0xFEFF)
      ∧ ({ State.reset with pc := 0xFEFF } : State).pc = 0xFEFF := by decide

theorem witness_IoRegisterReadsAndWrites :
    ([0xFF00, 0xFF3F, 0xFF4C, 0xFF50, 0xFF7F] : List Word).all (fun a =>
      decide (0xFF00 ≤ a.toNat ∧ a.toNat ≤ 0xFF7F ∧ a ∉ ([0xFF04, 0xFF05, 0xFF06, 0xFF07, 0xFF0F] : List Word)
        ∧ (a.toNat < 0xFF40 ∨ 0xFF4B < a.toNat))) = true := by decide

theorem witness_DmaCopiesOnePage :
    State.reset.mem.wf
      ∧ (∀ v ∈ ([0x00, 0x9F, 0xC0, 0xFE] : List Byte), v ≠ 0xFF ∧ (v.toNat < 0xA0 ∨ 0xBF < v.toNat))
      ∧ ({ State.reset with cartRamPresent := true } : State).cartRamPresent = true
      ∧ 0xFDFF < 0xFE00 ∧ 0xFE9F < 0xFEA0 := by decide

theorem witness_BootRomLatchIsOneWay :
    stepGives (vectorState [0x00]) 4 (fun _ => true) = true ∧ (vectorState [0x00]).bootRomEnabled = false := by decide

/-- The timer one machine cycle before the monitored bit 3 falls, TIMA about to wrap. -/
def timerState (tima : Byte) : State :=
  { State.reset with timer := { ic := 0x000C, tima := tima, tma := 0x23, tac := 5, overflowPending := false } }

theorem witness_TimerCountsFallingEdges :
    let s := timerState 0xFE
    let bit := [9, 3, 5, 7].getD (s.timer.tac.toNat % 4) 0
    let edges := if s.timer.tac.getLsbD 2 = true then fallingEdges bit s.timer.ic.toNat 4 else 0
    4 % 4 = 0 ∧ TimerInv s.timer ∧ s.timer.overflowPending = false ∧ edges = 1
      ∧ s.timer.tima.toNat + edges ≤ 255 := by decide

theorem witness_TimerReloadsOneCycleAfterOverflow :
    let s := timerState 0xFF
    TimerInv s.timer ∧ s.timer.overflowPending = false ∧ s.timer.tima = 0xFF ∧ s.timer.tac.getLsbD 2 = true
      ∧ fallingEdges ([9, 3, 5, 7].getD (s.timer.tac.toNat % 4) 0) s.timer.ic.toNat 4 = 1 := by decide

theorem witness_TimerTicksAdd : 4 % 4 = 0 ∧ 44 % 4 = 0 := by decide

/-- The PPU with the LCD on, in a given mode, at a given line and dot. -/
def ppuAt (mode : PpuMode) (ly : Byte) (dot : Nat) : Ppu :=
  { Ppu.reset with lcdc := 0x80, mode := mode, ly := ly, dot := dot }

theorem witness_FrameTakes70224Clocks :
    PpuInv (ppuAt .oamSearch 0 0) ∧ (ppuAt .oamSearch 0 0).lcdOn = true
      ∧ PpuInv (ppuAt .vblank 153 455) ∧ (ppuAt .vblank 153 455).lcdOn = true :=
  ⟨by decide, by decide, by decide, by decide⟩

theorem witness_VBlankOnceAtLine144 :
    PpuInv (ppuAt .hblank 143 455) ∧ (ppuAt .hblank 143 455).lcdOn = true
      ∧ PpuInv (ppuAt .hblank 143 454) ∧ (ppuAt .hblank 143 454).lcdOn = true :=
  ⟨by decide, by decide, by decide, by decide⟩

/-- Each case of one PPU clock: the last clock of mode 2, of lines 142, 143, 144 and 153, and one in between (62 R389). -/
theorem witness_VBlankOnceAtLine144_clock :
    let after (mode : PpuMode) (ly : Byte) (dot : Nat) : PpuMode × Byte × Nat :=
      let p := (ppuClock { State.reset with ppu := ppuAt mode ly dot }).ppu
      (p.mode, p.ly, p.dot)
    after .oamSearch 5 79 = (.transfer, 5, 80) ∧ after .hblank 142 455 = (.oamSearch, 143, 0)
      ∧ after .hblank 143 455 = (.vblank, 144, 0) ∧ after .vblank 144 455 = (.vblank, 145, 0)
      ∧ after .vblank 153 455 = (.oamSearch, 0, 0) ∧ after .hblank 7 300 = (.hblank, 7, 301) := by decide

/-- Only the HBlank check enabled: the clock that ends mode 3 requests the STAT interrupt (62 R399 a). -/
theorem test_stat_on_hblank_entry :
    let px : Pixel := { colorIndex := 0, sourceKind := .background, paletteSelect := false, priority := false }
    let t := ppuClock { State.reset with ppu := { Ppu.reset with
      lcdc := 0x91, statEn := 1, mode := .transfer, dot := 255
      line := { Ppu.reset.line with lx := 159, fifo := List.replicate 9 px } } }
    t.ppu.mode = .hblank ∧ t.ifr = 0b00010 := by decide

theorem witness_LcdSwitchesOffAndOn :
    let on : Ppu := { Ppu.reset with lcdc := 0x91 }
    (on.lcdc.getLsbD 7 = true ∧ (0x11 : Byte).getLsbD 7 = false)
      ∧ (Ppu.reset.lcdc.getLsbD 7 = false ∧ (0x80 : Byte).getLsbD 7 = true) := by decide

/-- A halted CPU with IME set and VBlank pending takes the interrupt at the end of its Step; with IME clear it only wakes
(60 R321, R322). -/
theorem witness_StepRunsTheDecodedInstruction_dispatch :
    let s : State := { State.reset with halt := true, ime := true, ie := 0x01, ifr := 0b00001, pc := 0x0150, sp := 0xFFFE }
    stepGives s 24 (fun t => t.pc == 0x0040 && !t.halt && !t.ime && t.sp == 0xFFFC) = true
      ∧ stepGives { s with ime := false } 4 (fun t => t.pc == 0x0150 && !t.halt && !t.ime) = true := by decide

theorem witness_RouterReadsByRegion :
    [0x0000, 0x00FF, 0x0100, 0x7FFF, 0x8000, 0x9FFF, 0xA000, 0xBFFF, 0xC000, 0xDFFF, 0xE000, 0xFDFF, 0xFE00, 0xFE9F,
        0xFEA0, 0xFEFF, 0xFF00, 0xFF7F, 0xFF80, 0xFFFE, 0xFFFF].map regionOf
      = [.rom, .rom, .rom, .rom, .vram, .vram, .cartRam, .cartRam, .wram, .wram, .mirror, .mirror, .oam, .oam,
        .unmapped, .unmapped, .io, .io, .hram, .hram, .ie] := by decide

theorem witness_RouterReadsByRegion_rom :
    let s : State := { State.reset with bootRom := [(0xFF, 0x50)], mem := [(0xFF, 0x11), (0x100, 0x22)] }
    (busRead 0x00FF s).1 = 0x50 ∧ (busRead 0x0100 s).1 = 0x22
      ∧ (busRead 0x00FF { s with bootRomEnabled := false }).1 = 0x11 := by decide

/-- A line without sprites: no window, a window at the left screen edge, at the last column, and one past it. -/
theorem witness_PlainLineTransferTakes176Clocks :
    let p (lcdc wx : Byte) : Ppu := { Ppu.reset with lcdc := lcdc, scx := 0x07, wx := wx }
    ((p 0x91 0x07).lcdc.getLsbD 1 = false ∧ (p 0xB1 0x07).lcdc.getLsbD 1 = false ∧ (p 0x91 0x07).fb.wf)
      ∧ windowOnLine (p 0x91 0x07) = false ∧ windowOnLine (p 0xB1 0x07) = true ∧ windowOnLine (p 0xB1 166) = true
      ∧ windowOnLine (p 0xB1 167) = false ∧ windowOnLine (p 0xB1 0x06) = false := by decide

/-- One clock of mode 3, clause by clause: a FIFO of nine pixels with the window starting, a discard, a sprite to wait for
and a sprite that costs no clock. -/
theorem witness_PlainLineTransferTakes176Clocks_clock :
    let px : Pixel := { colorIndex := 1, sourceKind := .background, paletteSelect := false, priority := false }
    let sp : Sprite := { posY := 16, posX := 8, tileIndex := 0, paletteSelect := false, flipX := false, flipY := false,
                         priority := false, fetched := false }
    let p : Ppu := { Ppu.reset with
      lcdc := 0xB3, wx := 7, mode := .transfer, spriteBuf := [sp], line := { Ppu.reset.line with fifo := List.replicate 9 px } }
    let pops (p : Ppu) : Prop := p.line.stall = 0 ∧ 8 < p.line.fifo.length
    let due (sp : Sprite) : Bool := p.lcdc.getLsbD 1 && !sp.fetched && decide (sp.posX.toNat = p.line.lx + 8)
    (pops p ∧ windowStartsAt p)
      ∧ ¬ windowStartsAt { p with wx := 8 }
      ∧ ¬ pops { p with line := { p.line with stall := 1 } }
      ∧ ¬ pops { p with line := { p.line with fifo := List.replicate 8 px } }
      ∧ (pops { p with wx := 8, line := { p.line with discard := 7 } }
        ∧ ¬ windowStartsAt { p with wx := 8, line := { p.line with discard := 7 } })
      ∧ (pops { p with wx := 8 } ∧ ¬ windowStartsAt { p with wx := 8 } ∧ p.line.discard = 0
        ∧ 11 * (p.spriteBuf.filter due).length ≠ 0 ∧ 0 * (p.spriteBuf.filter due).length = 0) := by decide

theorem witness_InvariantAtReset :
    let params : State := { State.reset with ppu := ppuAt .vblank 153 455 }
    (launchDirect 0x0100 params).isSome = true ∧ StorageInv params ∧ FrameInv params.ppu.fb ∧ FrameInv params.ppu.frame
      ∧ params.ppu.line.stall ≤ 160 ∧ params.ppu.lcdOn = true
      ∧ (launchDirect 0x0100 State.reset).isSome = true ∧ State.reset.ppu.lcdOn = false ∧ State.reset.ppu.dot = 0 :=
  ⟨by decide, by decide, by decide, by decide, by decide, by decide, by decide, by decide, by decide⟩

theorem witness_InvariantKeptByEveryStep :
    Inv (State.reset.withFetchWord 8 0x76) ∧ stepGives (State.reset.withFetchWord 8 0x76) 4 (fun t => t.halt) = true := by
  decide

end Sys2Proof.Tests
end

section
/-! What profile boot leaves, piece by piece, and the obligation on it (spec 10 R44). -/

namespace Sys2Proof.Machine

/-- Masking a byte into F keeps its bits 7 to 4 (10 R15). -/
theorem masked_high (v : Byte) {j : Nat} (h4 : 4 ≤ j) (h8 : j < 8) : (v &&& 0xF0).getLsbD j = v.getLsbD j := by
  have hmask : (0xF0 : Byte).getLsbD j = true := by interval_cases j <;> rfl
  rw [BitVec.getLsbD_and, hmask, Bool.and_true]

theorem launchBoot_timer (params : State) : (launchBoot params).timer = State.reset.timer := rfl

/-- The frame buffer is the only part of the PPU that profile boot takes from the parameters (10 R44). -/
theorem launchBoot_ppu (params : State) : (launchBoot params).ppu = { Ppu.reset with fb := params.ppu.fb } := rfl

/-- What IF, TAC, STAT and DIV read as at reset: the unused bits read 1, and LY = LYC (10 R44, 20 R67). -/
theorem reset_ioRead :
    (ioRead 0xFF0F State.reset).1 = 0xE0 ∧ (ioRead 0xFF07 State.reset).1 = 0xF8
      ∧ (ioRead 0xFF41 State.reset).1 = 0x84 ∧ (ioRead 0xFF04 State.reset).1 = 0x00 := by decide

/-- The four registers read the same in profile boot, whatever the parameters: none of them is carried over (10 R44). -/
theorem launchBoot_ioRead (params : State) :
    (ioRead 0xFF0F (launchBoot params)).1 = 0xE0 ∧ (ioRead 0xFF07 (launchBoot params)).1 = 0xF8
      ∧ (ioRead 0xFF41 (launchBoot params)).1 = 0x84 ∧ (ioRead 0xFF04 (launchBoot params)).1 = 0x00 :=
  reset_ioRead

/-- Profile boot carries over A to L and bits 7 to 4 of F (10 R44). -/
theorem launchBoot_carries_regs (params : State) :
    (∀ r, (launchBoot params).regs.get r = params.regs.get r)
      ∧ ∀ j, 4 ≤ j → j < 8 → (launchBoot params).regs.f.getLsbD j = params.regs.f.getLsbD j :=
  ⟨fun r => Regs.get_with_f params.regs _ r, fun _ h4 h8 => masked_high params.regs.f h4 h8⟩

/-- `State.reset` is profile boot with the values that logs 1 to 3 choose. -/
theorem reset_eq_launchBoot : State.reset = launchBoot State.reset := by decide

/-- Settles O58: the fixed values are those of `State.reset`, the low nibble of F is masked away, and the launch state
carries the rest. -/
theorem resetValues : Obligations.ResetValues := by
  unfold Obligations.ResetValues
  intro params
  have hlow : (launchBoot params).regs.f.extractLsb' 0 4 = 0 := masked_low params.regs.f
  obtain ⟨hregs, hflags⟩ := launchBoot_carries_regs params
  exact ⟨⟨rfl, rfl, rfl, rfl, rfl, rfl, rfl, rfl, rfl, hlow⟩,
    launchBoot_timer params, launchBoot_ppu params, launchBoot_ioRead params,
    ⟨hregs, hflags, rfl, rfl, rfl, rfl, rfl, rfl⟩, reset_eq_launchBoot⟩

end Sys2Proof.Machine
end

section
/-! The rows of the address map as ranges, what the router does in a row, and the write half of the router (spec 20 R60 to
R66). -/

namespace Sys2Proof.Machine

/-- The first address of a row of the address map (20 R60). -/
def Region.first : Region → Nat
  | .rom => 0x0000
  | .vram => 0x8000
  | .cartRam => 0xA000
  | .wram => 0xC000
  | .mirror => 0xE000
  | .oam => 0xFE00
  | .unmapped => 0xFEA0
  | .io => 0xFF00
  | .hram => 0xFF80
  | .ie => 0xFFFF

/-- The last address of a row of the address map (20 R60). -/
def Region.last : Region → Nat
  | .rom => 0x7FFF
  | .vram => 0x9FFF
  | .cartRam => 0xBFFF
  | .wram => 0xDFFF
  | .mirror => 0xFDFF
  | .oam => 0xFE9F
  | .unmapped => 0xFEFF
  | .io => 0xFF7F
  | .hram => 0xFFFE
  | .ie => 0xFFFF

/-- An address lies in its row. -/
theorem regionOf_bounds (a : Word) : (regionOf a).first ≤ a.toNat ∧ a.toNat ≤ (regionOf a).last := by
  have := a.isLt
  unfold regionOf
  split_ifs <;> simp only [Region.first, Region.last] <;> omega

/-- The rows do not overlap: an address within the bounds of a row is in that row. -/
theorem regionOf_eq_of_bounds {a : Word} {r : Region} (h : r.first ≤ a.toNat ∧ a.toNat ≤ r.last) : regionOf a = r := by
  unfold regionOf
  cases r <;> simp only [Region.first, Region.last] at h <;> simp (disch := omega) only [if_pos, if_neg]

theorem regionOf_eq_iff {a : Word} {r : Region} : regionOf a = r ↔ r.first ≤ a.toNat ∧ a.toNat ≤ r.last :=
  ⟨fun h => h ▸ regionOf_bounds a, regionOf_eq_of_bounds⟩

/-- The home of an address of the mirror, in the form of R62. -/
theorem homeKey_of_mirror {a : Word} (h : regionOf a = .mirror) : homeKey a = a.toNat - 0xE000 + 0xC000 := by
  have hlow : 0xE000 ≤ a.toNat := (regionOf_eq_iff.1 h).1
  simp only [homeKey, h]
  omega

theorem homeKey_of_ne_mirror {a : Word} (h : regionOf a ≠ .mirror) : homeKey a = a.toNat := by
  unfold homeKey
  split
  · exact absurd ‹_› h
  · rfl

/-- Only video RAM and OAM are ever blocked (20 R63). -/
theorem regionOf_of_gated {s : State} {a : Word} (h : gated s a = true) : regionOf a = .vram ∨ regionOf a = .oam := by
  unfold gated at h
  split at h
  · exact .inl ‹_›
  · exact .inr ‹_›
  · cases h

/-! ## The unmapped row (20 R64) -/

theorem busRead_of_unmapped {a : Word} (h : regionOf a = .unmapped) (s : State) : busRead a s = (0x00, s) := by
  simp [busRead, rawRead, gated, h]

theorem busWrite_of_unmapped {a : Word} (h : regionOf a = .unmapped) (v : Byte) (s : State) : busWrite a v s = s := by
  simp [busWrite, gated, h]

/-- The byte 0x00 is NOP, whatever follows it (30 R110). -/
theorem decodeInstr_zero (b1 b2 : Byte) : decodeInstr 0x00 b1 b2 = .nop := rfl

/-- The instruction fetched where the opcode reads 0x00 is NOP. -/
theorem fetchInstr_of_opcode_zero {s : State} (h : (fetchOpcode s).1 = 0x00) : (fetchInstr s).1 = .nop := by
  unfold fetchInstr
  simp only [h, decodeInstr_zero]

/-- Settles O44: the row is neither blocked nor stored, so a fetch reads the opcode 0x00, which is NOP. -/
theorem unmappedReadsZero : Obligations.UnmappedReadsZero := by
  unfold Obligations.UnmappedReadsZero
  intro a v s h1 h2
  have hr : regionOf a = .unmapped := regionOf_eq_of_bounds ⟨h1, h2⟩
  refine ⟨busRead_of_unmapped hr s, busWrite_of_unmapped hr v s, fun hpc => fetchInstr_of_opcode_zero ?_⟩
  rw [fetchOpcode_eq, hpc, busRead_of_unmapped hr]

/-! ## The write half of the router (20 R62) -/

/-- The rows of work RAM: addressed directly or through the mirror, never blocked and always present (20 R60). -/
def isWorkRam (a : Word) : Prop := regionOf a = .wram ∨ regionOf a = .mirror

theorem busRead_of_workRam {a : Word} (h : isWorkRam a) (s : State) : busRead a s = (s.mem.read (homeKey a), s) := by
  rcases h with h | h <;> simp [busRead, rawRead, gated, h]

theorem busWrite_of_workRam {a : Word} (h : isWorkRam a) (v : Byte) (s : State) : busWrite a v s = storeByte a v s := by
  rcases h with h | h <;> simp [busWrite, gated, h]

/-- A byte written to work RAM reads back at every address of work RAM with the same home (20 R62). -/
theorem busRead_busWrite_workRam {a b : Word} (ha : isWorkRam a) (hb : isWorkRam b) (hk : homeKey b = homeKey a)
    (v : Byte) {s : State} (hm : s.mem.wf) : (busRead b (busWrite a v s)).1 = v := by
  rw [busRead_of_workRam hb, busWrite_of_workRam ha, storeByte_mem, hk]
  exact Memory.read_write_same hm _ v

/-- The mirror: each of its addresses shares its home with the work RAM address 0x2000 below (20 R60). -/
theorem mirror_home {a : Word} (h1 : 0xE000 ≤ a.toNat) (h2 : a.toNat ≤ 0xFDFF) :
    isWorkRam a ∧ isWorkRam (a - 0x2000) ∧ homeKey (a - 0x2000) = homeKey a := by
  have hsub : (a - 0x2000).toNat = a.toNat - 0x2000 :=
    BitVec.toNat_sub_of_le (BitVec.le_def.2 (Nat.le_trans (by decide) h1))
  have hm : regionOf a = .mirror := regionOf_eq_of_bounds ⟨h1, h2⟩
  have hw : regionOf (a - 0x2000) = .wram := by
    apply regionOf_eq_of_bounds
    simp only [Region.first, Region.last, hsub]
    omega
  refine ⟨.inr hm, .inl hw, ?_⟩
  rw [homeKey_of_ne_mirror (by rw [hw]; decide), homeKey_of_mirror hm, hsub]
  omega

/-- The write half of the router, row by row, with the key of each byte stored (20 R62, R63). -/
theorem busWrite_byRow (a : Word) (v : Byte) (s : State) :
    busWrite a v s =
      (if a.toNat ≤ 0x7FFF then s
       else if a.toNat ≤ 0x9FFF then
         (if s.ppu.mode = .transfer then s else { s with mem := s.mem.write a.toNat v })
       else if a.toNat ≤ 0xBFFF then
         (if s.cartRamPresent = true then { s with mem := s.mem.write a.toNat v } else s)
       else if a.toNat ≤ 0xDFFF then { s with mem := s.mem.write a.toNat v }
       else if a.toNat ≤ 0xFDFF then { s with mem := s.mem.write (a.toNat - 0xE000 + 0xC000) v }
       else if a.toNat ≤ 0xFE9F then
         (if s.ppu.mode = .oamSearch ∨ s.ppu.mode = .transfer then s else { s with mem := s.mem.write a.toNat v })
       else if a.toNat ≤ 0xFEFF then s
       else if a.toNat ≤ 0xFF7F then ioWrite a v s
       else if a.toNat ≤ 0xFFFE then { s with mem := s.mem.write a.toNat v }
       else { s with ie := v }) := by
  have hb := regionOf_bounds a
  cases hr : regionOf a
  -- The bounds of the row select one line of the chain.
  all_goals
    simp only [hr, Region.first, Region.last] at hb
    simp (disch := omega) only [if_pos, if_neg]
  case mirror => rw [busWrite_of_workRam (.inr hr), storeByte, homeKey_of_mirror hr]
  all_goals simp [busWrite, gated, storeByte, homeKey, hr]

/-- Settles O42: the router by rows, the memory's own laws, and the home that the mirror shares with work RAM. -/
theorem routerWritesByRegion : Obligations.RouterWritesByRegion := by
  unfold Obligations.RouterWritesByRegion
  refine ⟨busWrite_byRow, fun m k j v hm => ⟨Memory.wf_write hm k v, ?_⟩, fun a v s hm h1 h2 => ?_⟩
  · split
    · subst j
      exact Memory.read_write_same hm k v
    · exact Memory.read_write_of_ne m v ‹_›
  · obtain ⟨ha, hlow, hk⟩ := mirror_home h1 h2
    exact ⟨busRead_busWrite_workRam ha ha rfl v hm, busRead_busWrite_workRam ha hlow hk v hm,
      busRead_busWrite_workRam hlow ha hk.symm v hm⟩

end Sys2Proof.Machine
end

section
/-! OAM DMA: each byte of the copy, and what it reads (spec 20 R72). -/

namespace Sys2Proof.Machine

/-! ## What the copy's read sees (20 R72) -/

/-- Where the router blocks an access, the copy's read takes the stored byte (20 R63, R72). -/
theorem rawRead_of_gated {s : State} {a : Word} (h : gated s a = true) : rawRead a s = (s.mem.read a.toNat, s) := by
  rcases regionOf_of_gated h with hr | hr <;> simp [rawRead, homeKey, hr]

/-- The copy's read is the router's read with the two gating tests removed (20 R72). -/
theorem rawRead_eq_ungated (a : Word) (s : State) :
    rawRead a s = if gated s a = true then (s.mem.read a.toNat, s) else busRead a s := by
  split
  · exact rawRead_of_gated ‹_›
  · rw [busRead, if_neg ‹_›]

/-- An address whose read draws no free byte and sees no I/O register (20 R61, R69). -/
def readsStored (s : State) (a : Word) : Prop :=
  regionOf a ≠ .io ∧ (regionOf a = .cartRam → s.cartRamPresent = true)

/-- Such a read gives the same byte in a state with other memory that agrees at the address's home. -/
theorem rawRead_congr {s : State} {a : Word} (ha : readsStored s a) {m : Memory}
    (hm : m.read (homeKey a) = s.mem.read (homeKey a)) (d : Byte) (n : Nat) :
    (rawRead a { s with dma := d, mem := m, draws := n }).1 = (rawRead a s).1 := by
  obtain ⟨hio, hcart⟩ := ha
  unfold rawRead
  cases hr : regionOf a
  case rom =>
    rw [homeKey_of_ne_mirror (by rw [hr]; decide)] at hm
    simp only [hm]
  case io => exact absurd hr hio
  case cartRam => simp only [hcart hr, if_true, hm]
  case unmapped => rfl
  case ie => rfl
  all_goals exact hm

/-! ## The copy byte by byte -/

/-- The byte written by one step of the copy (20 R72). -/
theorem dmaCopyByte_read_same (v : Byte) {s : State} (hm : s.mem.wf) (i : Nat) :
    (dmaCopyByte v s i).mem.read (0xFE00 + i) = (rawRead (join v 0x00 + BitVec.ofNat 16 i) s).1 :=
  Memory.read_write_same (by rw [rawRead_mem]; exact hm) _ _

/-- Byte `i` of OAM after the copy is what its own step read, with the earlier bytes in place: no later step writes it. -/
theorem foldl_dmaCopyByte_byte (v : Byte) {s : State} (hm : s.mem.wf) {i n : Nat} (h : i < n) :
    ((List.range n).foldl (dmaCopyByte v) s).mem.read (0xFE00 + i)
      = (rawRead (join v 0x00 + BitVec.ofNat 16 i) ((List.range i).foldl (dmaCopyByte v) s)).1 := by
  induction n with
  | zero => omega
  | succ n ih =>
    rw [List.range_succ, List.foldl_append]
    by_cases hi : i = n
    · subst hi
      exact dmaCopyByte_read_same v (foldl_dmaCopyByte_wf v _ hm) i
    · rw [foldl_dmaCopyByte_read v [n] _ (by simpa using hi)]
      exact ih (by omega)

/-- The copy's source address as a number (20 R72). -/
theorem dmaSource_eq (v : Byte) (i : Nat) : join v 0x00 + BitVec.ofNat 16 i = BitVec.ofNat 16 (256 * v.toNat + i) := by
  rw [BitVec.ofNat_add]
  congr 1
  apply BitVec.eq_of_toNat_eq
  rw [join_toNat, BitVec.toNat_ofNat, Nat.mod_eq_of_lt (by omega)]
  rfl

theorem dmaSource_toNat (v : Byte) {i : Nat} (hi : i < 160) :
    (BitVec.ofNat 16 (256 * v.toNat + i)).toNat = 256 * v.toNat + i := by
  have := v.isLt
  rw [BitVec.toNat_ofNat, Nat.mod_eq_of_lt (by omega)]

/-- A source address lies within the bounds of its row. -/
theorem dmaSource_bounds {v : Byte} {i : Nat} {r : Region} (hi : i < 160)
    (hr : regionOf (BitVec.ofNat 16 (256 * v.toNat + i)) = r) :
    r.first ≤ 256 * v.toNat + i ∧ 256 * v.toNat + i ≤ r.last := by
  rw [← dmaSource_toNat v hi]
  exact regionOf_eq_iff.1 hr

theorem page_toNat_lt_of_ne_ff {v : Byte} (hv : v ≠ 0xFF) : v.toNat < 0xFF := by
  have hne : v.toNat ≠ 0xFF := fun h => hv (BitVec.eq_of_toNat_eq h)
  have := v.isLt
  omega

/-- A source page outside the I/O page and absent cartridge RAM holds only stored bytes. -/
theorem dmaSource_readsStored {v : Byte} {s : State} (hv : v ≠ 0xFF)
    (hc : s.cartRamPresent = true ∨ v.toNat < 0xA0 ∨ 0xBF < v.toNat) {i : Nat} (hi : i < 160) :
    readsStored s (BitVec.ofNat 16 (256 * v.toNat + i)) := by
  constructor
  · intro hr
    have hlow : 0xFF00 ≤ 256 * v.toNat + i := (dmaSource_bounds hi hr).1
    have := page_toNat_lt_of_ne_ff hv
    omega
  · intro hr
    obtain ⟨hlow, hhigh⟩ : 0xA000 ≤ 256 * v.toNat + i ∧ 256 * v.toNat + i ≤ 0xBFFF := dmaSource_bounds hi hr
    exact hc.resolve_right (by omega)

/-- No step before `i` writes the byte that step `i` reads: the source page is not OAM, or it is OAM and byte `i` is its own
source. -/
theorem dmaSource_home {v : Byte} {i j : Nat} (hv : v ≠ 0xFF) (hi : i < 160) (hj : j < i) :
    homeKey (BitVec.ofNat 16 (256 * v.toNat + i)) ≠ 0xFE00 + j := by
  have hpage := page_toNat_lt_of_ne_ff hv
  by_cases hr : regionOf (BitVec.ofNat 16 (256 * v.toNat + i)) = .mirror
  · have hhigh : 256 * v.toNat + i ≤ 0xFDFF := (dmaSource_bounds hi hr).2
    rw [homeKey_of_mirror hr, dmaSource_toNat v hi]
    omega
  · rw [homeKey_of_ne_mirror hr, dmaSource_toNat v hi]
    omega

/-- A source page of stored bytes reads in the middle of the copy as it read before the copy. -/
theorem dmaSource_rawRead {v : Byte} {s : State} (hv : v ≠ 0xFF)
    (hc : s.cartRamPresent = true ∨ v.toNat < 0xA0 ∨ 0xBF < v.toNat) {i : Nat} (hi : i < 160) :
    (rawRead (BitVec.ofNat 16 (256 * v.toNat + i)) ((List.range i).foldl (dmaCopyByte v) { s with dma := v })).1
      = (rawRead (BitVec.ofNat 16 (256 * v.toNat + i)) s).1 := by
  rw [foldl_dmaCopyByte_state]
  refine rawRead_congr (dmaSource_readsStored hv hc hi) ?_ v _
  exact foldl_dmaCopyByte_read v _ _ fun j hj => dmaSource_home hv hi (List.mem_range.1 hj)

/-- Byte `i` of OAM after a write to the DMA register (20 R72). -/
theorem dmaWrite_byte (v : Byte) {s : State} (hm : s.mem.wf) {i : Nat} (hi : i < 160) :
    (dmaWrite v s).mem.read (0xFE00 + i)
      = (rawRead (BitVec.ofNat 16 (256 * v.toNat + i))
          ((List.range i).foldl (dmaCopyByte v) { s with dma := v })).1 := by
  rw [← dmaSource_eq]
  exact foldl_dmaCopyByte_byte v (s := { s with dma := v }) hm hi

theorem ioWrite_dma (v : Byte) (s : State) : ioWrite 0xFF46 v s = dmaWrite v s := rfl

/-- Settles O46: each byte of the copy is what its step read, and a source of stored bytes is not changed by the steps
before. -/
theorem dmaCopiesOnePage : Obligations.DmaCopiesOnePage := by
  unfold Obligations.DmaCopiesOnePage
  intro v s hm
  simp only [ioWrite_dma]
  exact ⟨fun i hi => dmaWrite_byte v hm hi,
    fun hv hc i hi => (dmaWrite_byte v hm hi).trans (dmaSource_rawRead hv hc hi),
    rawRead_eq_ungated, fun k hk => dmaWrite_read v s hk, dmaWrite_state v s⟩

end Sys2Proof.Machine
end

section
/-! The 8-bit operations in plain arithmetic: sum and difference with the carry in, the bitwise operations, and what an
instruction of any operand form leaves (spec 43 R185 to R192). -/

namespace Sys2Proof.Machine

theorem bitNat_decide (p : Prop) [Decidable p] : bitNat (decide p) = if p then 1 else 0 := by
  simp only [bitNat_eq, decide_eq_true_eq]

/-! ## The carry that an operation takes in -/

/-- ADD and ADC are one sum, into which ADC alone takes the carry (43 R185, R186). -/
theorem aluResult_of_sum {op : AluOp} (hop : op = .add ∨ op = .adc) (a b : Byte) (c : Bool) :
    aluResult op a b c = adc8 a b (decide (op = .adc ∧ c = true)) := by
  rcases hop with rfl | rfl
  · rfl
  · cases c <;> rfl

theorem sub8_eq_sbc8 (a b : Byte) : sub8 a b = sbc8 a b false := by
  have hres : a - b - BitVec.ofNat 8 (bitNat false) = a - b := BitVec.sub_zero (a - b)
  simp only [sbc8, hres]
  rfl

/-- SUB, SBC and CP are one difference, into which SBC alone takes the carry; CP keeps A (43 R187, R188, R192). -/
theorem aluResult_of_difference {op : AluOp} (hop : op = .sub ∨ op = .sbc ∨ op = .cp) (a b : Byte) (c : Bool) :
    aluResult op a b c =
      (if op = .cp then a else (sbc8 a b (decide (op = .sbc ∧ c = true))).1,
        (sbc8 a b (decide (op = .sbc ∧ c = true))).2) := by
  rcases hop with rfl | rfl | rfl
  · exact sub8_eq_sbc8 a b
  · cases c <;> rfl
  · exact congrArg (fun r => (a, r.2)) (sub8_eq_sbc8 a b)

/-! ## Results and flags as numbers -/

/-- The sum with its flags, from the numbers alone (43 R186). -/
theorem adc8_eq (a b : Byte) (c : Bool) :
    adc8 a b c = (BitVec.ofNat 8 (a.toNat + b.toNat + bitNat c),
      packF (decide ((a.toNat + b.toNat + bitNat c) % 256 = 0)) false
        (decide (a.toNat % 16 + b.toNat % 16 + bitNat c > 15)) (decide (a.toNat + b.toNat + bitNat c > 255))) := by
  simp only [adc8, byte_beq_zero, BitVec.toNat_ofNat]
  rfl

theorem sbc8_toNat (a b : Byte) (c : Bool) :
    (sbc8 a b c).1.toNat = (a.toNat + 512 - b.toNat - bitNat c) % 256 := by
  have ha := a.isLt
  have hb := b.isLt
  have hc : bitNat c ≤ 1 := by cases c <;> decide
  simp only [sbc8, BitVec.toNat_sub, BitVec.toNat_ofNat]
  omega

/-- The flags of the difference, from the numbers alone (43 R188). -/
theorem sbc8_flags (a b : Byte) (c : Bool) :
    (sbc8 a b c).2 = packF (decide ((a.toNat + 512 - b.toNat - bitNat c) % 256 = 0)) true
      (decide (a.toNat % 16 < b.toNat % 16 + bitNat c)) (decide (a.toNat < b.toNat + bitNat c)) := by
  rw [← sbc8_toNat, ← byte_beq_zero]
  rfl

/-- The bitwise operation that AND, XOR and OR name (43 R189 to R191). -/
def bitwiseResult (op : AluOp) (a b : Byte) : Byte :=
  if op = .and then a &&& b else if op = .xor then a ^^^ b else a ||| b

theorem bitwiseResult_getLsbD (op : AluOp) (a b : Byte) (j : Nat) :
    (bitwiseResult op a b).getLsbD j =
      if op = .and then a.getLsbD j && b.getLsbD j
      else if op = .xor then a.getLsbD j ^^ b.getLsbD j
      else a.getLsbD j || b.getLsbD j := by
  unfold bitwiseResult
  split_ifs
  · exact BitVec.getLsbD_and
  · exact BitVec.getLsbD_xor
  · exact BitVec.getLsbD_or

/-- AND, XOR and OR have their Z from the result, H from the operation, N and C clear (43 R189 to R191). -/
theorem aluResult_of_bitwise {op : AluOp} (hop : op = .and ∨ op = .xor ∨ op = .or) (a b : Byte) (c : Bool) :
    aluResult op a b c =
      (bitwiseResult op a b, packF (decide (bitwiseResult op a b = 0)) false (decide (op = .and)) false) := by
  rcases hop with rfl | rfl | rfl <;> rfl

/-! ## The instructions -/

/-- What an instruction of any operand form leaves, from its result and packed flags; nothing else changes
(43 R193 to R216). -/
theorem exec_alu_of_result {op : AluOp} {x : Src8} {s : State} {res : Byte} {z n h c : Bool}
    (e : aluResult op s.regs.a (x.value s) (flagC s) = (res, packF z n h c)) :
    ∃ t, exec (Form.alu op x) s = .next t ∧ t.regs.a = res ∧ FlagsAre t.regs.f z n h c
      ∧ t = { s with
          regs := { s.regs with a := t.regs.a, f := t.regs.f }, clocks := s.clocks + x.clocks, draws := t.draws } := by
  obtain ⟨drawn, hexec⟩ := exec_alu op x s
  rw [e] at hexec
  exact ⟨_, hexec, rfl, FlagsAre_masked z n h c, rfl⟩

/-- Settles O23: ADD and ADC are the sum of A, the operand and the carry that the operation takes in. -/
theorem addAndAdcResults : Obligations.AddAndAdcResults := by
  unfold Obligations.AddAndAdcResults
  intro op x s hop
  obtain ⟨t, hexec, hres, hflags, hframe⟩ := exec_alu_of_result ((aluResult_of_sum hop _ _ _).trans (adc8_eq _ _ _))
  rw [bitNat_decide] at hres hflags
  exact ⟨t, hexec, hres ▸ BitVec.toNat_ofNat _ _, hflags, hframe⟩

/-- Settles O24: SUB, SBC and CP are the difference of A, the operand and the carry that the operation takes in, which CP
does not write. -/
theorem subSbcAndCpResults : Obligations.SubSbcAndCpResults := by
  unfold Obligations.SubSbcAndCpResults
  intro op x s hop
  obtain ⟨t, hexec, hres, hflags, hframe⟩ :=
    exec_alu_of_result ((aluResult_of_difference hop _ _ _).trans (congrArg _ (sbc8_flags _ _ _)))
  rw [bitNat_decide] at hflags
  refine ⟨t, hexec, ?_, hflags, hframe⟩
  rw [hres, apply_ite BitVec.toNat, sbc8_toNat, bitNat_decide]

/-- Settles O25: AND, XOR and OR are their bitwise operation, whose bits and flags are known. -/
theorem andXorAndOrResults : Obligations.AndXorAndOrResults := by
  unfold Obligations.AndXorAndOrResults
  intro op x s hop
  obtain ⟨t, hexec, hres, hflags, hframe⟩ := exec_alu_of_result (aluResult_of_bitwise hop _ _ _)
  refine ⟨t, hexec, fun j _ => ?_, hres ▸ hflags, hframe⟩
  rw [hres]
  exact bitwiseResult_getLsbD op _ _ j

end Sys2Proof.Machine
end

section
/-! The stops of the CPU: the eleven opcodes with no instruction, and STOP (spec 48 R305, R306). -/

namespace Sys2Proof

/-! ## Decoding (30 R103, R110) -/

theorem decodeBytes_of_opLength_one {o : Byte} (h : opLength o = 1) (rest : List Byte) :
    decodeBytes (o :: rest) = .ok (decodeInstr o 0 0, rest) := by
  simp only [decodeBytes, h]

theorem decodeBytes_of_opLength_two {o : Byte} (h : opLength o = 2) (n : Byte) (rest : List Byte) :
    decodeBytes (o :: n :: rest) = .ok (decodeInstr o n 0, rest) := by
  simp only [decodeBytes, h]

/-- The opcode 0x10 is STOP, with the byte after it as its operand (30 R110). -/
theorem decodeInstr_stop (n b2 : Byte) : decodeInstr 0x10 n b2 = .stop n := rfl

end Sys2Proof

namespace Sys2Proof.Machine

/-- An opcode with no instruction is one byte long (30 R103). -/
theorem opLength_illegal {i : Instr} {o : Byte} (h : (i, o) ∈ Form.illegal) : opLength o = 1 := by
  have all : ∀ p ∈ Form.illegal, opLength p.2 = 1 := by decide
  exact all (i, o) h

/-- An opcode with no instruction decodes to its own constructor, whatever follows it (30 R112). -/
theorem decodeInstr_illegal {i : Instr} {o : Byte} (h : (i, o) ∈ Form.illegal) (b1 b2 : Byte) :
    decodeInstr o b1 b2 = i := by
  have all : ∀ p ∈ Form.illegal, decodeInstr p.2 b1 b2 = p.1 := by
    intro p hp
    fin_cases hp <;> rfl
  exact all (i, o) h

/-! ## Execution (48 R305, R306) -/

theorem exec_illegal {i : Instr} {o : Byte} (h : (i, o) ∈ Form.illegal) (s : State) :
    exec i s = .fault (.illegalOpcode o s.opcodePc) := by
  have all : ∀ p ∈ Form.illegal, exec p.1 s = .fault (.illegalOpcode p.2 s.opcodePc) := by
    intro p hp
    fin_cases hp <;> rfl
  exact all (i, o) h

theorem exec_stop (n : Byte) (s : State) : exec (.stop n) s = .refused .stop := rfl

/-! ## What a step fetches, and the steps that stop (40 R125, R126) -/

/-- The clock count plays no part in a read. -/
theorem busRead_beginStep (a : Word) (s : State) : (busRead a (beginStep s)).1 = (busRead a s).1 := by
  have hcpu : beginStep s = s.withCpu { s.cpu with clocks := 0 } := rfl
  rw [hcpu, busRead_withCpu]

/-- A step decodes the byte the router reads at PC, with some bytes after it. -/
theorem fetchInstr_beginStep_decodes (s : State) :
    ∃ b1 b2, (fetchInstr (beginStep s)).1 = decodeInstr (busRead s.pc s).1 b1 b2 := by
  have hop : (fetchOpcode (beginStep s)).1 = (busRead s.pc s).1 := by
    rw [fetchOpcode_eq]
    exact busRead_beginStep s.pc s
  rw [← hop]
  exact ⟨_, _, rfl⟩

@[simp] theorem fetchRest_opcodePc (o : Byte) (s : State) : (fetchRest o s).2.2.opcodePc = s.opcodePc := by
  unfold fetchRest
  split <;> simp only [fetch8_eq]

/-- The recorded address is the one the opcode was fetched from (40 R125). -/
@[simp] theorem fetchInstr_opcodePc (s : State) : (fetchInstr s).2.opcodePc = s.pc := by
  have hrest : (fetchInstr s).2.opcodePc = (fetchOpcode s).2.opcodePc := fetchRest_opcodePc _ _
  rw [hrest, fetchOpcode_eq]

theorem step_of_exec_fault {s : State} {f : Fault} (h : s.halt = false)
    (he : exec (fetchInstr (beginStep s)).1 (fetchInstr (beginStep s)).2 = .fault f) : step s = .fault f := by
  rw [step_running h, he]

theorem step_of_exec_refused {s : State} {r : Refusal} (h : s.halt = false)
    (he : exec (fetchInstr (beginStep s)).1 (fetchInstr (beginStep s)).2 = .refused r) : step s = .refused r := by
  rw [step_running h, he]

/-- A step that fetches an opcode with no instruction faults with the opcode and its address (48 R306). -/
theorem step_of_illegal {i : Instr} {o : Byte} (hio : (i, o) ∈ Form.illegal) {s : State} (hrun : s.halt = false)
    (hread : (busRead s.pc s).1 = o) : step s = .fault (.illegalOpcode o s.pc) := by
  obtain ⟨b1, b2, hfetch⟩ := fetchInstr_beginStep_decodes s
  refine step_of_exec_fault hrun ?_
  rw [hfetch, hread, decodeInstr_illegal hio, exec_illegal hio, fetchInstr_opcodePc, beginStep_pc]

/-- A step that fetches the opcode 0x10 is refused (48 R305). -/
theorem step_of_stop {s : State} (hrun : s.halt = false) (hread : (busRead s.pc s).1 = 0x10) :
    step s = .refused .stop := by
  obtain ⟨n, b2, hfetch⟩ := fetchInstr_beginStep_decodes s
  refine step_of_exec_refused hrun ?_
  rw [hfetch, hread, decodeInstr_stop, exec_stop]

/-! ## The obligations -/

/-- Settles O14: each of the eleven opcodes decodes to a constructor whose meaning is the fault, and a step's fetch records
the address that the fault reports. -/
theorem opcodesWithNoInstructionFault : Obligations.OpcodesWithNoInstructionFault := by
  unfold Obligations.OpcodesWithNoInstructionFault
  intro i o hio
  refine ⟨fun rest => ?_, fun s => ⟨exec_illegal hio s, step_of_illegal hio⟩⟩
  rw [decodeBytes_of_opLength_one (opLength_illegal hio), decodeInstr_illegal hio]

/-- Settles O15: the opcode 0x10 decodes to STOP with its second byte, and STOP is refused in every state. -/
theorem stopIsRefused : Obligations.StopIsRefused := by
  unfold Obligations.StopIsRefused
  exact ⟨decodeBytes_of_opLength_two (by decide), fun s => ⟨fun n => exec_stop n s, step_of_stop⟩⟩

end Sys2Proof.Machine
end

section
/-! Interrupt dispatch: which interrupt is pending, what the entry pushes and leaves alone, and when a halt ends
(spec 60 R318 to R325). -/

namespace Sys2Proof.Machine

/-! ## What is pending (60 R318) -/

theorem pendingInterrupts_getLsbD (s : State) {n : Nat} (hn : n < 5) :
    (pendingInterrupts s).getLsbD n = (s.ie.getLsbD n && s.ifr.getLsbD n) := by
  simp only [pendingInterrupts, BitVec.getLsbD_and, BitVec.getLsbD_setWidth, hn, decide_true, Bool.true_and]

theorem pendingInterrupts_toNat (s : State) : (pendingInterrupts s).toNat = s.ie.toNat % 32 &&& s.ifr.toNat := by
  simp only [pendingInterrupts, BitVec.toNat_and, BitVec.toNat_setWidth, Nat.reducePow]

/-- Nothing is pending exactly when IE and IF share no bit under the mask 0x1F. -/
theorem pendingInterrupts_eq_zero_iff (s : State) :
    pendingInterrupts s = 0 ↔ s.ie.toNat % 32 &&& s.ifr.toNat = 0 := by
  rw [← pendingInterrupts_toNat]
  exact BitVec.toNat_eq

/-- The interrupt that dispatch takes is enabled and requested, and none below it is both (60 R324). -/
theorem lowestPending_pendingInterrupts {s : State} (h : pendingInterrupts s ≠ 0) :
    lowestPending (pendingInterrupts s) < 5
      ∧ (s.ie.getLsbD (lowestPending (pendingInterrupts s))
          && s.ifr.getLsbD (lowestPending (pendingInterrupts s))) = true
      ∧ ∀ m < lowestPending (pendingInterrupts s), (s.ie.getLsbD m && s.ifr.getLsbD m) = false := by
  obtain ⟨hlt, hset, hbelow⟩ := lowestPending_spec _ h
  refine ⟨hlt, ?_, fun m hm => ?_⟩
  · rw [← pendingInterrupts_getLsbD s hlt]
    exact hset
  · rw [← pendingInterrupts_getLsbD s (hm.trans hlt)]
    exact hbelow m hm

/-! ## What a push leaves alone (20 R75) -/

/-- A frame does not see PC, SP and the clocks: it still holds where PC and SP are replaced on both sides, whatever the
clocks. -/
theorem StoreFrame_with_pc_sp {as : List Word} {s t : State} (h : StoreFrame as s t) (pc sp : Word) (clocks : Nat) :
    StoreFrame as { s with pc := pc, sp := sp } { t with pc := pc, sp := sp, clocks := clocks } := by
  obtain ⟨hstate, hmem, hie, hio⟩ := h
  exact ⟨congrArg (fun u : State => { u with pc := pc, sp := sp, clocks := clocks }) hstate, hmem, hie,
    fun hn => congrArg (fun u : State => { u with pc := pc, sp := sp, clocks := clocks }) (hio hn)⟩

/-- The frame of a push: that of its two stores, wherever PC goes with it. -/
theorem StoreFrame_pushedState (v pc : Word) (s : State) (clocks : Nat) :
    StoreFrame [s.sp - 1, s.sp - 2] { s with pc := pc, sp := s.sp - 2 }
      { pushedState v s with pc := pc, clocks := clocks } := by
  let u := busWrite (s.sp - 1) (hiByte v) s
  have hhigh : StoreFrame [s.sp - 1] s u := StoreFrame_one _ _ s u.clocks
  have hlow : StoreFrame [s.sp - 2] u (busWrite (s.sp - 2) (loByte v) u) := StoreFrame_one _ _ u _
  exact StoreFrame_with_pc_sp (StoreFrame_trans hhigh hlow) pc (s.sp - 2) clocks

/-! ## When a halt ends (60 R322) -/

/-- The entry itself does not touch `halt`. -/
theorem takeInterrupt_halt (n : Nat) (s : State) : (takeInterrupt n s).halt = s.halt := by
  rw [takeInterrupt_eq]
  exact congrArg Cpu.halt ((busWrite_cpu ..).trans (busWrite_cpu ..))

/-- Where something is pending dispatch ends a halt, with or without the entry. -/
theorem interruptDispatch_halt {s : State} (h : pendingInterrupts s ≠ 0) (b : Bool) :
    (interruptDispatch b s).halt = false := by
  cases b
  · rw [interruptDispatch_wake h]
  · rw [interruptDispatch_take h, takeInterrupt_halt]

/-- Settles O11: with nothing pending dispatch is the identity; otherwise it ends the halt, and without the entry does
no more. -/
theorem haltEndsExactlyWhenPending : Obligations.HaltEndsExactlyWhenPending := by
  unfold Obligations.HaltEndsExactlyWhenPending
  intro b s
  simp only [← pendingInterrupts_eq_zero_iff]
  by_cases h : pendingInterrupts s = 0
  · refine ⟨?_, fun _ => interruptDispatch_idle h b, ?_⟩
    · rw [if_pos h, interruptDispatch_idle h]
    · rw [interruptDispatch_idle h]
  · refine ⟨?_, fun h0 => absurd h0 h, ?_⟩
    · rw [if_neg h, interruptDispatch_halt h]
    · rw [interruptDispatch_wake h]

/-! ## The entry (60 R324, R325) -/

/-- Settles O10: dispatch is the entry of the lowest pending interrupt, a push with PC at the vector. -/
theorem dispatchTakesLowestPending : Obligations.DispatchTakesLowestPending := by
  unfold Obligations.DispatchTakesLowestPending
  intro s h
  obtain ⟨hlt, hset, hbelow⟩ := lowestPending_pendingInterrupts h
  have hentry := (interruptDispatch_take h).trans (takeInterrupt_eq _ _)
  refine ⟨_, hlt, hset, hbelow, hentry, ?_⟩
  simp only [hentry]
  exact StoreFrame_pushedState _ _ _ _

end Sys2Proof.Machine
end

section
/-! The OAM search: which entries it selects, and that its sort is a stable sort by X (spec 62 R405, R406). -/

namespace Sys2Proof.Machine

/-! ## The selection -/

/-- The search's test in plain arithmetic (62 R406). -/
theorem Sprite.covers_eq_decide (sp : Sprite) (ly : Byte) (height : Nat) :
    sp.covers ly height
      = decide (sp.posX ≠ 0 ∧ sp.posY.toNat ≤ ly.toNat + 16 ∧ ly.toNat + 16 < sp.posY.toNat + height) := by
  simp only [Sprite.covers, bne, Bool.decide_and, decide_not, Bool.and_assoc]
  rfl

/-- The scan appends to its buffer the first entries that match, up to ten in all. -/
theorem selectSprites_eq_append_take (mem : Memory) (ly : Byte) (height : Nat) (is : List Nat) (buf : List Sprite) :
    selectSprites mem ly height is buf
      = buf ++ ((is.map (oamSprite mem)).filter (·.covers ly height)).take (10 - buf.length) := by
  induction is generalizing buf with
  | nil => simp [selectSprites]
  | cons i is ih =>
    rw [selectSprites, ih, List.map_cons]
    cases hcov : (oamSprite mem i).covers ly height with
    | false => simp [hcov]
    | true =>
      by_cases hroom : buf.length < 10
      · have hleft : 10 - buf.length = (10 - (buf.length + 1)) + 1 := by omega
        simp [hcov, hroom, hleft]
      · have hfull : 10 - buf.length = 0 := by omega
        simp [hroom, hfull]

/-! ## The sort -/

/-- The sprites of a list are in order of X. -/
def sortedByX (l : List Sprite) : Prop := l.Pairwise fun x y => x.posX.toNat ≤ y.posX.toNat

theorem insertByX_perm (sp : Sprite) (l : List Sprite) : (insertByX sp l).Perm (sp :: l) := by
  induction l with
  | nil => exact .refl _
  | cons x xs ih =>
    rw [insertByX]
    split
    · exact .refl _
    · exact (ih.cons x).trans (.swap sp x xs)

theorem insertByX_sorted (sp : Sprite) {l : List Sprite} (h : sortedByX l) : sortedByX (insertByX sp l) := by
  induction l with
  | nil => exact List.pairwise_singleton _ sp
  | cons x xs ih =>
    obtain ⟨hx, hxs⟩ := List.pairwise_cons.1 h
    rw [insertByX]
    split
    next hlt =>
      refine List.pairwise_cons.2 ⟨fun y hy => ?_, h⟩
      rcases List.mem_cons.1 hy with rfl | hy
      · exact hlt.le
      · exact hlt.le.trans (hx y hy)
    next hle =>
      refine List.pairwise_cons.2 ⟨fun y hy => ?_, ih hxs⟩
      rcases List.mem_cons.1 ((insertByX_perm sp xs).mem_iff.1 hy) with rfl | hy
      · exact not_lt.1 hle
      · exact hx y hy

/-- Stability of one insertion: among the sprites of one X the new one is last. -/
theorem insertByX_filter (sp : Sprite) {l : List Sprite} (h : sortedByX l) (x : Byte) :
    (insertByX sp l).filter (·.posX == x) = (l ++ [sp]).filter (·.posX == x) := by
  induction l with
  | nil => rfl
  | cons y ys ih =>
    obtain ⟨hy, hys⟩ := List.pairwise_cons.1 h
    rw [insertByX]
    split
    next hlt =>
      by_cases hx : sp.posX = x
      · -- every sprite behind the new one has a larger X
        have hnone : (y :: ys).filter (·.posX == x) = [] := by
          refine List.filter_eq_nil_iff.2 fun z hz heq => ?_
          have hzx : z.posX = sp.posX := (beq_iff_eq.1 heq).trans hx.symm
          rcases List.mem_cons.1 hz with rfl | hz
          · exact hlt.ne (congrArg _ hzx).symm
          · exact (hlt.trans_le (hy z hz)).ne (congrArg _ hzx).symm
        rw [List.filter_append, hnone, List.filter_cons, hnone]
        simp [hx]
      · simp [List.filter_cons, List.filter_append, hx]
    next => rw [List.cons_append, List.filter_cons, List.filter_cons, ih hys]

theorem sortByX_perm (sps l : List Sprite) : (sortByX sps l).Perm (l ++ sps) := by
  induction sps generalizing l with
  | nil => rw [List.append_nil, sortByX]
  | cons sp sps ih =>
    calc sortByX sps (insertByX sp l)
      _ |>.Perm (insertByX sp l ++ sps) := ih _
      _ |>.Perm (sp :: l ++ sps) := (insertByX_perm sp l).append_right sps
      _ |>.Perm (l ++ sp :: sps) := List.perm_middle.symm

theorem sortByX_sorted (sps : List Sprite) {l : List Sprite} (h : sortedByX l) : sortedByX (sortByX sps l) := by
  induction sps generalizing l with
  | nil => exact h
  | cons sp sps ih => exact ih (insertByX_sorted sp h)

/-- The sort is stable: the sprites of one X keep their order. -/
theorem sortByX_filter (sps : List Sprite) {l : List Sprite} (h : sortedByX l) (x : Byte) :
    (sortByX sps l).filter (·.posX == x) = (l ++ sps).filter (·.posX == x) := by
  induction sps generalizing l with
  | nil => rw [List.append_nil, sortByX]
  | cons sp sps ih =>
    rw [sortByX, ih (insertByX_sorted sp h), List.filter_append, insertByX_filter sp h, ← List.filter_append,
      List.append_assoc, List.singleton_append]

/-! ## The obligation -/

/-- The first ten matching entries, in address order (62 R406). -/
def Ppu.matching (mem : Memory) (p : Ppu) : List Sprite :=
  (((List.range 40).map (oamSprite mem)).filter (·.covers p.ly p.spriteHeight)).take 10

/-- A search replaces the buffer by those entries, sorted. -/
theorem search_eq (mem : Memory) (p : Ppu) :
    p.search mem = { p with spriteBuf := sortByX (p.matching mem) [] } := by
  rw [Ppu.search, selectSprites_eq_append_take]
  rfl

/-- Settles O56: the scan is a filter and a take, and the sort is a permutation, sorted and stable. -/
theorem oamSearchKeepsFirstTenByX : Obligations.OamSearchKeepsFirstTenByX := by
  unfold Obligations.OamSearchKeepsFirstTenByX
  intro mem p
  refine ⟨fun _ _ => rfl, ?_⟩
  intro h selected buf
  have hselected : selected = p.matching mem := by
    simp only [Ppu.matching, Sprite.covers_eq_decide]
    rfl
  have hbuf : buf = sortByX selected [] := by
    rw [hselected]
    exact congrArg Ppu.spriteBuf (search_eq mem p)
  rw [hbuf]
  refine ⟨sortByX_perm selected [], sortByX_sorted selected .nil, sortByX_filter selected .nil, ?_⟩
  rw [hselected, search_eq]

end Sys2Proof.Machine
end

section
/-! The STAT line: its level, the request on a rise, and what a PPU clock hands to its evaluation (spec 62 R389, R397,
R398). -/

namespace Sys2Proof.Machine

/-- The evaluation requests the STAT interrupt, IF bit 1, on a rise of the level and touches no other bit (62 R397). -/
theorem updateStatLine_ifr_getLsbD (s : State) (j : Nat) :
    (updateStatLine s).ifr.getLsbD j
      = (s.ifr.getLsbD j || (decide (j = 1) && (s.ppu.statLevel && !s.ppu.statLine))) := by
  have hmask : (2#5).getLsbD j = decide (j = 1) := by
    rw [show 2#5 = .twoPow 5 1 from rfl, BitVec.getLsbD_twoPow]
    simp [eq_comm]
  rw [updateStatLine_ifr]
  cases s.ppu.statLevel && !s.ppu.statLine <;> simp [hmask]

/-- The level is that of the registers, LY and mode; the remembered level is no part of it. -/
theorem statLevel_with_statLine (p : Ppu) (b : Bool) : { p with statLine := b }.statLevel = p.statLevel := rfl

/-! ## What a PPU clock does before the line is evaluated -/

theorem advanceDot_statLine (mem : Memory) (sfc : Nat) (p : Ppu) : (p.advanceDot mem sfc).statLine = p.statLine := by
  have hmode3 : (p.mode3Clock mem sfc).statLine = p.statLine := by rw [mode3Clock_state]
  unfold Ppu.advanceDot
  simp only
  split
  · split <;> exact hmode3
  · split <;> rfl

theorem nextLine_statLine (mem : Memory) (p : Ppu) : (p.nextLine mem).statLine = p.statLine := by
  unfold Ppu.nextLine
  simp only
  split_ifs <;> rfl

/-- Every PPU clock ends with the evaluation of the STAT line, in a state that remembers the level of the clock before and
in which no request but VBlank's is new (62 R389, R398). -/
theorem ppuClock_eq_updateStatLine (s : State) :
    ∃ u : State, ppuClock s = updateStatLine u ∧ u.ppu.statLine = s.ppu.statLine
      ∧ ∀ j, 1 ≤ j → u.ifr.getLsbD j = s.ifr.getLsbD j := by
  unfold ppuClock
  simp only
  split
  · refine ⟨_, rfl, (nextLine_statLine ..).trans (advanceDot_statLine ..), fun j hj => ?_⟩
    dsimp only
    split
    · have h0 : j ≠ 0 := by omega
      simp [h0]
    · rfl
  · exact ⟨_, rfl, advanceDot_statLine .., fun _ _ => rfl⟩

/-! ## The obligation -/

/-- Settles O54: the evaluation is `updateStatLine`, and a PPU clock ends with it, where the remembered level and IF from
bit 1 on are those of the clock's start. -/
theorem statInterruptOnRisingEdge : Obligations.StatInterruptOnRisingEdge := by
  unfold Obligations.StatInterruptOnRisingEdge
  intro s level
  have hlevel : level = Ppu.statLevel := rfl
  clear_value level
  subst hlevel
  obtain ⟨u, hclock, hline, hifr⟩ := ppuClock_eq_updateStatLine s
  refine ⟨?_, ?_⟩
  · simp only [updateStatLine, Bool.and_eq_true, Bool.not_eq_true']
  · simp only [hclock, updateStatLine_ppu, statLevel_with_statLine, updateStatLine_ifr_getLsbD, hline]
    refine ⟨trivial, ?_, fun j hj => ?_⟩
    · rw [hifr 1 le_rfl, decide_true, Bool.true_and]
    · have h1 : j ≠ 1 := by omega
      rw [hifr j (by omega), decide_eq_false h1, Bool.false_and, Bool.or_false]

end Sys2Proof.Machine
end

section
/-! The decoder and the encoder: each inverts the other, and the opcode's fields select the instruction (spec 30 R103 to
R111). -/

namespace Sys2Proof

open Machine

/-! ## Two-byte operands (30 R108) -/

/-- The bytes of a word in stream order, joined again. -/
theorem leBytes_append (h n : Byte) : leBytes (h ++ n) = [n, h] :=
  congrArg₂ (fun x y => [x, y]) (loByte_join h n) (hiByte_join h n)

theorem append_leBytes (nn : Word) : nn.extractLsb' 8 8 ++ nn.extractLsb' 0 8 = nn :=
  join_hiByte_loByte nn

/-! ## Decoding an encoding -/

theorem decodeBytes_of_opLength_three {o : Byte} (h : opLength o = 3) (b1 b2 : Byte) (rest : List Byte) :
    decodeBytes (o :: b1 :: b2 :: rest) = .ok (decodeInstr o b1 b2, rest) := by
  simp only [decodeBytes, h]

/-- An opcode whose instruction takes both later bytes as one word decodes its encoding to that word. -/
theorem decodeBytes_word {o : Byte} {f : Word → Instr} (hlen : opLength o = 3)
    (hf : ∀ b1 b2, decodeInstr o b1 b2 = f (b2 ++ b1)) (nn : Word) (rest : List Byte) :
    decodeBytes (o :: leBytes nn ++ rest) = .ok (f nn, rest) := by
  have h := decodeBytes_of_opLength_three hlen (nn.extractLsb' 0 8) (nn.extractLsb' 8 8) rest
  rwa [hf, append_leBytes] at h

/-- Decoding the encoding of a whole instruction gives it back: a word operand is split and joined again, every other
encoding is its opcode with its operand byte as it stands. -/
theorem decodeBytes_encode (i : Instr) (rest : List Byte) (hi : i.wellFormed = true) :
    decodeBytes (i.encode ++ rest) = .ok (i, rest) := by
  cases i
  case prefixCb => cases hi
  case ldBcImm16 nn | ldAtImm16Sp nn | ldDeImm16 nn | ldHlImm16 nn | ldSpImm16 nn | jpNZImm16 nn | jpImm16 nn
    | callNZImm16 nn | jpZImm16 nn | callZImm16 nn | callImm16 nn | jpNCImm16 nn | callNCImm16 nn | jpCImm16 nn
    | callCImm16 nn | ldAtImm16A nn | ldAAtImm16 nn => exact decodeBytes_word rfl (fun _ _ => rfl) nn rest
  all_goals rfl

/-- Settles O3: by cases on the instruction, a word operand being split and joined again. -/
theorem decodeInvertsEncode : Obligations.DecodeInvertsEncode := by
  unfold Obligations.DecodeInvertsEncode
  exact decodeBytes_encode

/-! ## Encoding what was decoded -/

/-- Every CB entry is a whole instruction whose encoding is the byte 0xCB and its own (30 R109, R111). -/
theorem encode_decodeCb (c : Byte) : (decodeCb c).wellFormed = true ∧ (decodeCb c).encode = [0xCB, c] := by
  revert c; decide

theorem mem_opcodesNN_of_opLength {o : Byte} (h : opLength o = 3) : o ∈ opcodesNN := by
  revert h; revert o; decide

theorem mem_opcodesN_of_opLength {o : Byte} (h : opLength o = 2) : o ∈ opcodesN := by
  revert h; revert o; decide

theorem encode_of_opLength_one {o : Byte} (h : opLength o = 1) :
    (decodeInstr o 0 0).wellFormed = true ∧ (decodeInstr o 0 0).encode = [o] := by
  revert h; revert o; decide

theorem encode_of_opLength_two {o : Byte} (h : opLength o = 2) (b1 : Byte) :
    (decodeInstr o b1 0).wellFormed = true ∧ (decodeInstr o b1 0).encode = [o, b1] := by
  by_cases hcb : o = 0xCB
  · subst hcb
    exact encode_decodeCb b1
  · have all : ∀ p ∈ opcodesN.filter (· ≠ 0xCB),
        (decodeInstr p b1 0).wellFormed = true ∧ (decodeInstr p b1 0).encode = [p, b1] := by
      intro p hp
      fin_cases hp <;> exact ⟨rfl, rfl⟩
    exact all o (List.mem_filter.2 ⟨mem_opcodesN_of_opLength h, decide_eq_true hcb⟩)

theorem encode_of_opLength_three {o : Byte} (h : opLength o = 3) (b1 b2 : Byte) :
    (decodeInstr o b1 b2).wellFormed = true ∧ (decodeInstr o b1 b2).encode = [o, b1, b2] := by
  have all : ∀ p ∈ opcodesNN, (decodeInstr p b1 b2).wellFormed = true
      ∧ (decodeInstr p b1 b2).encode = p :: leBytes (b2 ++ b1) := by
    intro p hp
    fin_cases hp <;> exact ⟨rfl, rfl⟩
  rw [← leBytes_append b2 b1]
  exact all o (mem_opcodesNN_of_opLength h)

/-- The bytes that an opcode takes, given as many as it asks for, are the encoding of what it decodes to. -/
theorem decodeBytes_of_enough {o : Byte} {tl : List Byte} (h : opLength o ≤ (o :: tl).length) :
    ∃ i rest, decodeBytes (o :: tl) = .ok (i, rest) ∧ i.wellFormed = true ∧ o :: tl = i.encode ++ rest := by
  rcases opLength_cases o with h1 | h2 | h3
  · obtain ⟨hwf, henc⟩ := encode_of_opLength_one h1
    exact ⟨_, _, decodeBytes_of_opLength_one h1 tl, hwf, by rw [henc]; rfl⟩
  · match tl, h with
    | b1 :: rest, _ =>
      obtain ⟨hwf, henc⟩ := encode_of_opLength_two h2 b1
      exact ⟨_, _, decodeBytes_of_opLength_two h2 b1 rest, hwf, by rw [henc]; rfl⟩
    | [], h => rw [h2] at h; simp at h
  · match tl, h with
    | b1 :: b2 :: rest, _ =>
      obtain ⟨hwf, henc⟩ := encode_of_opLength_three h3 b1 b2
      exact ⟨_, _, decodeBytes_of_opLength_three h3 b1 b2 rest, hwf, by rw [henc]; rfl⟩
    | [_], h => rw [h3] at h; simp at h
    | [], h => rw [h3] at h; simp at h

/-- Too few bytes are refused by the name of their opcode (30 R103). -/
theorem decodeBytes_of_truncated {o : Byte} {tl : List Byte} (h : (o :: tl).length < opLength o) :
    decodeBytes (o :: tl) = .error (.truncated o) := by
  rcases opLength_cases o with h1 | h2 | h3
  · rw [h1] at h; simp at h
  · match tl, h with
    | [], _ => simp only [decodeBytes, h2]
    | _ :: _, h => rw [h2] at h; simp at h
  · match tl, h with
    | [], _ => simp only [decodeBytes, h3]
    | [_], _ => simp only [decodeBytes, h3]
    | _ :: _ :: _, h => rw [h3] at h; simp only [List.length_cons] at h; omega

/-- Settles O4: by the number of bytes the first one asks for, and whether they are there. -/
theorem encodeInvertsDecode : Obligations.EncodeInvertsDecode := by
  unfold Obligations.EncodeInvertsDecode
  intro bs
  refine ⟨fun i rest hdec => ?_, fun hnil => hnil ▸ rfl, fun o tl hbs hlen => ?_, fun o tl hbs hlen => ?_⟩
  · match bs, hdec with
    | o :: tl, hdec =>
      by_cases hlen : opLength o ≤ (o :: tl).length
      · obtain ⟨j, rest', hj, hwf, henc⟩ := decodeBytes_of_enough hlen
        rw [hj] at hdec
        obtain ⟨rfl, rfl⟩ := Prod.mk.inj (Except.ok.inj hdec)
        exact ⟨hwf, henc⟩
      · rw [decodeBytes_of_truncated (Nat.lt_of_not_le hlen)] at hdec
        cases hdec
    | [], hdec => cases hdec
  · subst hbs
    exact decodeBytes_of_truncated hlen
  · subst hbs
    obtain ⟨i, rest, hdec, -, -⟩ := decodeBytes_of_enough hlen
    exact ⟨i, rest, hdec⟩

/-! ## Words and fields -/

/-- Settles O1: each word is decoded by evaluation. -/
theorem decodeOfWordsWrittenOut : Obligations.DecodeOfWordsWrittenOut := by
  unfold Obligations.DecodeOfWordsWrittenOut
  exact ⟨rfl, rfl, rfl, rfl, rfl, rfl, rfl, rfl, rfl, rfl, rfl, rfl, rfl, rfl, rfl, rfl⟩

/-- The CB byte of an operation and an operand decodes to that operation on that operand (30 R107, R111). -/
theorem decodeCb_shift (o : ShiftOp) (x : Loc8) :
    decodeCb (BitVec.ofNat 8 (8 * ShiftOp.code o + Loc8.code x)) = Form.shift o x := by
  cases x with
  | atHl => cases o <;> rfl
  | reg r => cases o <;> cases r <;> rfl

theorem decodeCb_bit (b : Fin 8) (x : Loc8) :
    decodeCb (BitVec.ofNat 8 (0x40 + 8 * b.val + Loc8.code x)) = Form.bit b x := by
  revert b
  cases x with
  | atHl => decide
  | reg r => cases r <;> decide

theorem decodeCb_res (b : Fin 8) (x : Loc8) :
    decodeCb (BitVec.ofNat 8 (0x80 + 8 * b.val + Loc8.code x)) = Form.res b x := by
  revert b
  cases x with
  | atHl => decide
  | reg r => cases r <;> decide

theorem decodeCb_set (b : Fin 8) (x : Loc8) :
    decodeCb (BitVec.ofNat 8 (0xC0 + 8 * b.val + Loc8.code x)) = Form.set b x := by
  revert b
  cases x with
  | atHl => decide
  | reg r => cases r <;> decide

theorem decodeInstr_rst (t : Fin 8) (b1 b2 : Byte) :
    decodeInstr (BitVec.ofNat 8 (0xC7 + 8 * t.val)) b1 b2 = Form.rst t := by
  revert t; refine forall_fin8 ?_ ?_ ?_ ?_ ?_ ?_ ?_ ?_ <;> rfl

/-- Settles O2: each field formula by cases on the operands that its fields number. -/
theorem fieldsSelectOperands : Obligations.FieldsSelectOperands := by
  unfold Obligations.FieldsSelectOperands
  intro b1 b2 op cb
  refine ⟨fun dst src => ?_, fun r => ?_, fun o r => ?_, fun o => ?_, fun p => ?_, fun p => ?_, fun cc => ?_,
    fun t => decodeInstr_rst t b1 b2, decodeCb_shift,
    fun b x => ⟨decodeCb_bit b x, decodeCb_res b x, decodeCb_set b x⟩⟩
  · cases dst <;> cases src <;> rfl
  · cases r <;> exact ⟨rfl, rfl, rfl, rfl, rfl⟩
  · cases o <;> cases r <;> rfl
  · cases o <;> exact ⟨rfl, rfl⟩
  · cases p <;> exact ⟨rfl, rfl, rfl, rfl⟩
  · cases p <;> exact ⟨rfl, rfl⟩
  · cases cc <;> exact ⟨rfl, rfl, rfl, rfl⟩

end Sys2Proof
end

section
/-! The fetch, the CB entries, and what a step runs (spec 40 R125 to R127, 30 R109). -/

namespace Sys2Proof.Machine

/-! ## Reads change the count of free bytes alone -/

/-- The same machine but for the count of free bytes drawn. -/
def DrawsOnly (s t : State) : Prop := t = { s with draws := t.draws }

theorem DrawsOnly.busRead {s t : State} (h : DrawsOnly s t) (a : Word) : DrawsOnly s (busRead a t).2 := by
  unfold DrawsOnly at h ⊢
  rw [busRead_state, h]

theorem drawsOnly_busRead (a : Word) (s : State) : DrawsOnly s (busRead a s).2 := busRead_state a s

theorem DrawsOnly.withCpu {s t : State} (h : DrawsOnly s t) (c : Cpu) :
    t.withCpu c = { s.withCpu c with draws := t.draws } := by
  unfold DrawsOnly at h
  rw [h]
  rfl

/-! ## The fetch (40 R126) -/

/-- `Fetch8` with CPU state `c`: the read does not see it. -/
theorem fetch8_withCpu (c : Cpu) (s : State) :
    fetch8 (s.withCpu c) = ((busRead c.pc s).1,
      (busRead c.pc s).2.withCpu { c with pc := c.pc + 1, clocks := c.clocks + 4 }) := by
  have hpc : (s.withCpu c).pc = c.pc := rfl
  rw [fetch8_eq, hpc, busRead_withCpu]
  exact Prod.ext rfl ((drawsOnly_busRead c.pc s).withCpu { c with pc := c.pc + 1, clocks := c.clocks + 4 }).symm

/-- The CPU state that the opcode fetch leaves. -/
def State.cpuAfterOpcode (s : State) : Cpu :=
  { s.cpu with
    pc := s.pc + (if s.haltBug = true then 0 else 1), haltBug := false, clocks := s.clocks + 4, opcodePc := s.pc }

theorem fetchOpcode_withCpu (s : State) :
    fetchOpcode s = ((busRead s.pc s).1, (busRead s.pc s).2.withCpu s.cpuAfterOpcode) := by
  rw [fetchOpcode_eq, (drawsOnly_busRead s.pc s).withCpu]
  rfl

/-- The later bytes of an instruction by its length: none, one or two, each from where the one before left PC. -/
theorem fetchRest_withCpu (o : Byte) (c : Cpu) (s : State) :
    let b1 := busRead c.pc s
    let b2 := busRead (c.pc + 1) b1.2
    (opLength o = 1 → fetchRest o (s.withCpu c) = (0, 0, s.withCpu c))
    ∧ (opLength o = 2 → fetchRest o (s.withCpu c)
        = (b1.1, 0, b1.2.withCpu { c with pc := c.pc + 1, clocks := c.clocks + 4 }))
    ∧ (opLength o = 3 → fetchRest o (s.withCpu c)
        = (b1.1, b2.1, b2.2.withCpu { c with pc := c.pc + 1 + 1, clocks := c.clocks + 4 + 4 })) := by
  unfold fetchRest
  refine ⟨fun h => ?_, fun h => ?_, fun h => ?_⟩
  · simp only [h]
  · simp only [h, fetch8_withCpu]
  · simp only [h, fetch8_withCpu]

/-- The whole fetch: by the length of the instruction, as many reads in stream order (40 R126, 30 R103). -/
theorem fetchInstr_eq (s : State) :
    let o := busRead s.pc s
    let pc1 := s.pc + (if s.haltBug = true then 0 else 1)
    let b1 := busRead pc1 o.2
    let b2 := busRead (pc1 + 1) b1.2
    let n := opLength o.1
    (fetchInstr s).1 = decodeInstr o.1 (if n = 1 then 0 else b1.1) (if n = 3 then b2.1 else 0)
    ∧ (fetchInstr s).2 =
      { s with
        pc := pc1 + BitVec.ofNat 16 (n - 1)
        haltBug := false
        clocks := s.clocks + 4 * n
        opcodePc := s.pc
        draws := (if n = 1 then o.2 else if n = 2 then b1.2 else b2.2).draws } := by
  intro o pc1 b1 b2 n
  obtain ⟨hrest1, hrest2, hrest3⟩ := fetchRest_withCpu o.1 s.cpuAfterOpcode o.2
  have ho : DrawsOnly s o.2 := drawsOnly_busRead s.pc s
  have hb1 : DrawsOnly s b1.2 := ho.busRead pc1
  have hb2 : DrawsOnly s b2.2 := hb1.busRead (pc1 + 1)
  have hfetch : fetchInstr s =
      (decodeInstr o.1 (fetchRest o.1 (o.2.withCpu s.cpuAfterOpcode)).1
          (fetchRest o.1 (o.2.withCpu s.cpuAfterOpcode)).2.1,
        (fetchRest o.1 (o.2.withCpu s.cpuAfterOpcode)).2.2) := by
    unfold fetchInstr
    rw [fetchOpcode_withCpu]
  have hn : opLength o.1 = n := rfl
  rcases opLength_cases o.1 with h1 | h2 | h3
  · rw [hfetch, hrest1 h1, ho.withCpu, ← hn, h1]
    refine ⟨rfl, ?_⟩
    rw [show pc1 + BitVec.ofNat 16 (1 - 1) = pc1 from BitVec.add_zero pc1]
    rfl
  · have hrest : fetchRest o.1 (o.2.withCpu s.cpuAfterOpcode) = (b1.1, 0, b1.2.withCpu _) := hrest2 h2
    rw [hfetch, hrest, hb1.withCpu, ← hn, h2]
    exact ⟨rfl, rfl⟩
  · have hrest : fetchRest o.1 (o.2.withCpu s.cpuAfterOpcode) = (b1.1, b2.1, b2.2.withCpu _) := hrest3 h3
    rw [hfetch, hrest, hb2.withCpu, ← hn, h3]
    refine ⟨rfl, ?_⟩
    rw [show pc1 + BitVec.ofNat 16 (3 - 1) = pc1 + 1 + 1 from (BitVec.add_assoc pc1 1 1).symm]
    rfl

/-- Settles O7: the opcode fetch, then the later bytes by the length of the instruction. -/
theorem fetchTakesTheWholeInstruction : Obligations.FetchTakesTheWholeInstruction := by
  unfold Obligations.FetchTakesTheWholeInstruction
  exact fetchInstr_eq

/-! ## The CB entries (30 R109, R111) -/

/-- The CB table and the field formulas agree entry by entry (30 R111, 46 R250). -/
theorem exec_decodeCb (c : Byte) (s : State) : exec (decodeCb c) s = .next (cbEntry c s) := by
  obtain ⟨n, hn, rfl⟩ : ∃ n < 256, c = BitVec.ofNat 8 n := ⟨c.toNat, c.isLt, by simp⟩
  interval_cases n <;> rfl

theorem exec_prefixCb (s : State) : exec .prefixCb s = .next (cbEntry (fetch8 s).1 (fetch8 s).2) := rfl

/-- Settles O5: the meaning of the row PREFIX CB runs an entry by the field formulas, which are the CB table. -/
theorem prefixRunsItsCbEntry : Obligations.PrefixRunsItsCbEntry := by
  unfold Obligations.PrefixRunsItsCbEntry
  intro s
  refine ⟨_, exec_prefixCb s, ?_, ?_⟩
  · rw [exec_decodeCb, fetch8_eq]
  · rw [fetch8_eq]

/-! ## What a step runs (40 R125, R127) -/

/-- Three bytes that begin with a whole instruction: what it is, and how long. -/
theorem decodeBytes_three {o b1 b2 : Byte} {i : Instr} {rest : List Byte}
    (h : decodeBytes [o, b1, b2] = .ok (i, rest)) :
    i.encode.length = opLength o
      ∧ i = decodeInstr o (if opLength o = 1 then 0 else b1) (if opLength o = 3 then b2 else 0) := by
  rcases opLength_cases o with h1 | h2 | h3
  · rw [decodeBytes_of_opLength_one h1] at h
    obtain ⟨rfl, -⟩ := Prod.mk.inj (Except.ok.inj h)
    rw [(encode_of_opLength_one h1).2, h1]
    exact ⟨rfl, rfl⟩
  · rw [decodeBytes_of_opLength_two h2] at h
    obtain ⟨rfl, -⟩ := Prod.mk.inj (Except.ok.inj h)
    rw [(encode_of_opLength_two h2 b1).2, h2]
    exact ⟨rfl, rfl⟩
  · rw [decodeBytes_of_opLength_three h3] at h
    obtain ⟨rfl, -⟩ := Prod.mk.inj (Except.ok.inj h)
    rw [(encode_of_opLength_three h3 b1 b2).2, h3]
    exact ⟨rfl, rfl⟩

/-- Where the three bytes at PC draw no free byte and begin with instruction `i`, the fetch takes `i`. -/
theorem fetchInstr_of_plain {s : State} {i : Instr} {rest : List Byte} (hbug : s.haltBug = false)
    (hplain : ∀ j < 3, (busRead (s.pc + BitVec.ofNat 16 j) s).2 = s)
    (hdec : decodeBytes ((List.range 3).map fun j => (busRead (s.pc + BitVec.ofNat 16 j) s).1) = .ok (i, rest)) :
    fetchInstr s = (i, { s with
      pc := s.pc + BitVec.ofNat 16 i.encode.length, clocks := s.clocks + 4 * i.encode.length, opcodePc := s.pc }) := by
  have e0 : s.pc + BitVec.ofNat 16 0 = s.pc := BitVec.add_zero s.pc
  have e2 : s.pc + BitVec.ofNat 16 2 = s.pc + 1 + 1 := (BitVec.add_assoc s.pc 1 1).symm
  have h0 : (busRead s.pc s).2 = s := e0 ▸ hplain 0 (by decide)
  have h1 : (busRead (s.pc + 1) s).2 = s := hplain 1 (by decide)
  have h2 : (busRead (s.pc + 1 + 1) s).2 = s := e2 ▸ hplain 2 (by decide)
  have hbytes : decodeBytes [(busRead s.pc s).1, (busRead (s.pc + 1) s).1, (busRead (s.pc + 1 + 1) s).1]
      = .ok (i, rest) := by
    rw [show List.range 3 = [0, 1, 2] from rfl, List.map, List.map, List.map, List.map, e0, e2] at hdec
    exact hdec
  obtain ⟨hlen, hi⟩ := decodeBytes_three hbytes
  obtain ⟨hfst, hsnd⟩ := fetchInstr_eq s
  simp only [hbug, Bool.false_eq_true, if_false, h0, h1, h2, ite_self] at hfst hsnd
  rw [← hlen] at hsnd
  refine Prod.ext (hfst.trans hi.symm) (hsnd.trans ?_)
  have hpos : 1 ≤ i.encode.length := by
    rcases opLength_cases (busRead s.pc s).1 with h | h | h <;> omega
  have hpc : s.pc + 1 + BitVec.ofNat 16 (i.encode.length - 1) = s.pc + BitVec.ofNat 16 i.encode.length := by
    rw [BitVec.add_assoc, show (1 : Word) = BitVec.ofNat 16 1 from rfl, ← BitVec.ofNat_add]
    congr 2
    omega
  rw [hpc, ← hbug]

/-- Reads see neither the clocks nor anything else of the CPU: three plain bytes stay so at the beginning of a Step. -/
theorem fetchInstr_beginStep_of_plain {s : State} {i : Instr} {rest : List Byte} (hbug : s.haltBug = false)
    (hplain : ∀ j < 3, (busRead (s.pc + BitVec.ofNat 16 j) s).2 = s)
    (hdec : decodeBytes ((List.range 3).map fun j => (busRead (s.pc + BitVec.ofNat 16 j) s).1) = .ok (i, rest)) :
    fetchInstr (beginStep s) = (i, { s with
      pc := s.pc + BitVec.ofNat 16 i.encode.length, clocks := 4 * i.encode.length, opcodePc := s.pc }) := by
  have h := fetchInstr_of_plain (s := beginStep s) (i := i) (rest := rest) hbug (fun j hj => ?_) ?_
  · rw [h, beginStep_clocks, Nat.zero_add]
    rfl
  · have hcpu : beginStep s = s.withCpu { s.cpu with clocks := 0 } := rfl
    rw [beginStep_pc]
    conv_lhs => rw [hcpu, busRead_withCpu, hplain j hj]
    rfl
  · simp only [beginStep_pc, busRead_beginStep]
    exact hdec

/-- Settles O6: the fetch of plain bytes takes the decoded instruction; the other clauses are the ways a step goes. -/
theorem stepRunsTheDecodedInstruction : Obligations.StepRunsTheDecodedInstruction := by
  unfold Obligations.StepRunsTheDecodedInstruction
  intro s
  refine ⟨fun i rest hrun hbug hplain hdec => ?_, step_halted, step_running, fun _ _ => rfl, fun b t h => ?_, fun t => ?_⟩
  · have hstep := step_running hrun
    rw [fetchInstr_beginStep_of_plain hbug hplain hdec] at hstep
    exact hstep
  · unfold endStep
    rw [interruptDispatch_idle h]
  · have hbusy : (ppuCatchUp t.clocks (timerTick t.clocks t)).dmaBusy = t.dmaBusy := by
      rw [ppuCatchUp_state, timerTick_state]
    exact congrArg (fun busy => { ppuCatchUp t.clocks (timerTick t.clocks t) with dmaBusy := busy - t.clocks }) hbusy

end Sys2Proof.Machine
end

section
/-! What every instruction can do: a shared meaning each, and of each meaning the clocks, the CPU's control state and the
bus writes (spec 40 R128, 48 R303, R304, 20 R66, R70). -/

namespace Sys2Proof.Machine

/-! ## What changes but for the CPU -/

/-- `t` comes from `s` by bus writes, apart from the CPU's own state and the count of free bytes drawn. -/
inductive BusEffect (s : State) : State → Prop
  | refl : BusEffect s s
  | cpu {t : State} (c : Cpu) (h : BusEffect s t) : BusEffect s (t.withCpu c)
  | draw {t : State} (n : Nat) (h : BusEffect s t) : BusEffect s { t with draws := n }
  | write {t : State} (a : Word) (v : Byte) (h : BusEffect s t) : BusEffect s (busWrite a v t)

theorem BusEffect.trans {s t u : State} (h : BusEffect s t) (g : BusEffect t u) : BusEffect s u := by
  induction g with
  | refl => exact h
  | cpu c _ ih => exact ih.cpu c
  | draw n _ ih => exact ih.draw n
  | write a v _ ih => exact ih.write a v

/-- What a bus write keeps and the CPU's state has no part in, a `BusEffect` keeps. -/
theorem BusEffect.keeps {P : State → Prop} (hcpu : ∀ t c, P t → P (t.withCpu c))
    (hdraw : ∀ (t : State) n, P t → P { t with draws := n }) (hwrite : ∀ t a v, P t → P (busWrite a v t))
    {s t : State} (h : BusEffect s t) (hs : P s) : P t := by
  induction h with
  | refl => exact hs
  | cpu c _ ih => exact hcpu _ c ih
  | draw n _ ih => exact hdraw _ n ih
  | write a v _ ih => exact hwrite _ a v ih

/-! ## An effect of `k` clocks -/

/-- `k` clocks pass; IME, the halt flags and the recorded fetch address are kept, and the low nibble of F stays 0; the
rest changes by bus writes. -/
structure Effect (k : Nat) (s t : State) : Prop where
  clocks : t.clocks = s.clocks + k
  ime : t.ime = s.ime
  halt : t.halt = s.halt
  haltBug : t.haltBug = s.haltBug
  opcodePc : t.opcodePc = s.opcodePc
  flags : s.regs.f.extractLsb' 0 4 = 0 → t.regs.f.extractLsb' 0 4 = 0
  bus : BusEffect s t

namespace Effect

theorem refl (s : State) : Effect 0 s s := ⟨rfl, rfl, rfl, rfl, rfl, id, .refl⟩

theorem trans {j k : Nat} {s t u : State} (h : Effect j s t) (g : Effect k t u) : Effect (j + k) s u where
  clocks := by rw [g.clocks, h.clocks, Nat.add_assoc]
  ime := g.ime.trans h.ime
  halt := g.halt.trans h.halt
  haltBug := g.haltBug.trans h.haltBug
  opcodePc := g.opcodePc.trans h.opcodePc
  flags := g.flags ∘ h.flags
  bus := h.bus.trans g.bus

/-- Registers written so that the low nibble of F is as before, or 0. -/
theorem regs (g : Regs) (s : State) (hf : g.f = s.regs.f ∨ g.f.extractLsb' 0 4 = 0) :
    Effect 0 s { s with regs := g } where
  clocks := rfl
  ime := rfl
  halt := rfl
  haltBug := rfl
  opcodePc := rfl
  flags := fun h => hf.elim (fun e => e ▸ h) id
  bus := .cpu { s.cpu with regs := g } .refl

theorem pc (v : Word) (s : State) : Effect 0 s { s with pc := v } :=
  ⟨rfl, rfl, rfl, rfl, rfl, id, .cpu { s.cpu with pc := v } .refl⟩

theorem sp (v : Word) (s : State) : Effect 0 s { s with sp := v } :=
  ⟨rfl, rfl, rfl, rfl, rfl, id, .cpu { s.cpu with sp := v } .refl⟩

theorem internal (s : State) : Effect 4 s (internal s) :=
  ⟨rfl, rfl, rfl, rfl, rfl, id, .cpu { s.cpu with clocks := s.clocks + 4 } .refl⟩

theorem setR8 (r : R8) (v : Byte) (s : State) : Effect 0 s (setR8 r v s) := regs _ s (.inl (Regs.set_f _ r v))

theorem setF (v : Byte) (s : State) : Effect 0 s (setF v s) := regs _ s (.inr (masked_low v))

theorem setHl (v : Word) (s : State) : Effect 0 s (setHl v s) := regs _ s (.inl rfl)

theorem setR16 (p : R16) (v : Word) (s : State) : Effect 0 s (setR16 p v s) := by
  cases p with
  | sp => exact sp v s
  | bc | de | hl => exact regs _ s (.inl rfl)

theorem setR16Stack (p : R16Stack) (v : Word) (s : State) : Effect 0 s (setR16Stack p v s) := by
  cases p with
  | af => exact regs _ s (.inr (masked_low _))
  | bc | de | hl => exact regs _ s (.inl rfl)

theorem memRead (a : Word) (s : State) : Effect 4 s (memRead a s).2 := by
  rw [memRead_eq]
  exact ⟨rfl, rfl, rfl, rfl, rfl, id,
    .draw (busRead a s).2.draws (.cpu { s.cpu with clocks := s.clocks + 4 } .refl)⟩

theorem memWrite (a : Word) (v : Byte) (s : State) : Effect 4 s (memWrite a v s) := by
  have hcpu := busWrite_cpu a v s
  rw [memWrite_eq]
  exact ⟨rfl, congrArg Cpu.ime hcpu, congrArg Cpu.halt hcpu, congrArg Cpu.haltBug hcpu, congrArg Cpu.opcodePc hcpu,
    fun h => (congrArg (fun c : Cpu => c.regs.f.extractLsb' 0 4) hcpu).trans h,
    .cpu { (busWrite a v s).cpu with clocks := s.clocks + 4 } (.write a v .refl)⟩

theorem fetch8 (s : State) : Effect 4 s (fetch8 s).2 := (memRead s.pc s).trans (pc _ _)

theorem push16 (v : Word) (s : State) : Effect 8 s (push16 v s) :=
  (sp _ s).trans <| (memWrite _ _ _).trans <| (sp _ _).trans (memWrite _ _ _)

theorem pop16 (s : State) : Effect 8 s (pop16 s).2 :=
  (memRead _ s).trans <| (sp _ _).trans <| (memRead _ _).trans (sp _ _)

theorem returnFromCall (s : State) : Effect 12 s (returnFromCall s) :=
  (pop16 s).trans <| (pc _ _).trans (internal _)

theorem callTo (target : Word) (s : State) : Effect 12 s (callTo target s) :=
  (internal s).trans <| (push16 _ _).trans (pc _ _)

theorem jumpTo (target : Word) (s : State) : Effect 4 s (jumpTo target s) := (pc _ s).trans (internal _)

theorem aluOn (op : AluOp) (x : Byte) (s : State) : Effect 0 s (aluOn op x s) := (setR8 _ _ s).trans (setF _ _)

end Effect

/-! ## The shared meanings -/

/-- The 256 CB entries: no clock for a register, 4 for BIT at HL, 8 for the others at HL (46 R250). -/
theorem cbEntry_effect (c : Byte) (s : State) : ∃ n ≤ 2, Effect (4 * n) s (cbEntry c s) := by
  unfold cbEntry
  simp only
  split
  · exact ⟨0, by decide, (Effect.setR8 _ _ s).trans (.setF _ _)⟩
  · exact ⟨2, by decide, (Effect.memRead _ s).trans <| (Effect.memWrite _ _ _).trans (.setF _ _)⟩
  · exact ⟨0, by decide, .setF _ s⟩
  · exact ⟨1, by decide, (Effect.memRead _ s).trans (.setF _ _)⟩
  · exact ⟨0, by decide, .setR8 _ _ s⟩
  · exact ⟨2, by decide, (Effect.memRead _ s).trans (.memWrite _ _ _)⟩
  · exact ⟨0, by decide, .setR8 _ _ s⟩
  · exact ⟨2, by decide, (Effect.memRead _ s).trans (.memWrite _ _ _)⟩

/-- A conditional meaning: the effect if taken, else nothing. -/
theorem Effect.conditional {n : Nat} {b : Prop} [Decidable b] {s t : State} (hn : n ≤ 3) (h : Effect (4 * n) s t) :
    ∃ n ≤ 3, Effect (4 * n) s (if b then t else s) := by
  split
  · exact ⟨n, hn, h⟩
  · exact ⟨0, by decide, .refl s⟩

/-- The state after an instruction that completes, one case for each shared meaning of the rows; the rows that write IME
or the halt flags, and RET cc, are named. -/
inductive Completes (s : State) : Instr → State → Prop
  | shiftReg {i} (op r) : Completes s i (shiftReg op r s)
  | shiftHl {i} (op) : Completes s i (shiftHl op s)
  | bitReg {i} (b r) : Completes s i (bitReg b r s)
  | bitHl {i} (b) : Completes s i (bitHl b s)
  | resReg {i} (b r) : Completes s i (resReg b r s)
  | resHl {i} (b) : Completes s i (resHl b s)
  | setReg {i} (b r) : Completes s i (setReg b r s)
  | setHlBit {i} (b) : Completes s i (setHlBit b s)
  | prefixCb {i} : Completes s i (cbFetchAndRun s)
  | ldReg {i} (dst src) : Completes s i (ldReg dst src s)
  | ldRegImm {i} (dst n) : Completes s i (ldRegImm dst n s)
  | ldRegHl {i} (dst) : Completes s i (ldRegHl dst s)
  | ldHlReg {i} (src) : Completes s i (ldHlReg src s)
  | ldAFrom {i} (a) : Completes s i (ldAFrom a s)
  | ldAFromStep {i} (a d) : Completes s i (stepHl d (ldAFrom a s))
  | ldAtA {i} (a) : Completes s i (ldAtA a s)
  | ldAtAStep {i} (a d) : Completes s i (stepHl d (ldAtA a s))
  | memWrite {i} (a v) : Completes s i (memWrite a v s)
  | setR16 {i} (p v) : Completes s i (setR16 p v s)
  | memWrite16 {i} (a v) : Completes s i (memWrite16 a v s)
  | pushPair {i} (p) : Completes s i (pushPair p s)
  | popPair {i} (p) : Completes s i (popPair p s)
  | ldSpHl {i} (v) : Completes s i (internal { s with sp := v })
  | aluReg {i} (op r) : Completes s i (aluReg op r s)
  | aluHl {i} (op) : Completes s i (aluHl op s)
  | aluOn {i} (op x) : Completes s i (aluOn op x s)
  | incReg {i} (r) : Completes s i (incReg r s)
  | decReg {i} (r) : Completes s i (decReg r s)
  | incHlByte {i} : Completes s i (incHlByte s)
  | decHlByte {i} : Completes s i (decHlByte s)
  | addHlPair {i} (p) : Completes s i (addHlPair p s)
  | stepPair {i} (p d) : Completes s i (stepPair p d s)
  | addSpDisp {i} (e) : Completes s i (addSpDisp e s)
  | ldHlSpDisp {i} (e) : Completes s i (ldHlSpDisp e s)
  | rotateA {i} (op) : Completes s i (rotateA op s)
  | daaA {i} : Completes s i (daaA s)
  | cplA {i} : Completes s i (cplA s)
  | setF {i} (v) : Completes s i (setF v s)
  | jumpTo {i} (a) : Completes s i (jumpTo a s)
  | jumpIf {i} (cc a) : Completes s i (jumpIf cc a s)
  | jumpBy {i} (e) : Completes s i (jumpBy e s)
  | jumpByIf {i} (cc e) : Completes s i (jumpByIf cc e s)
  | jpHl {i} (v) : Completes s i { s with pc := v }
  | callTo {i} (a) : Completes s i (callTo a s)
  | callIf {i} (cc a) : Completes s i (callIf cc a s)
  | returnFromCall {i} : Completes s i (returnFromCall s)
  | nop {i} : Completes s i s
  | retNZ : Completes s .retNZ (returnIf .nz s)
  | retZ : Completes s .retZ (returnIf .z s)
  | retNC : Completes s .retNC (returnIf .nc s)
  | retC : Completes s .retC (returnIf .c s)
  | di : Completes s .di { s with ime := false }
  | ei : Completes s .ei { s with ime := true }
  | reti : Completes s .reti (returnFromInterrupt s)
  | halt : Completes s .halt (haltCpu s)

/-- Every row that gives a next state has one of the shared meanings. -/
theorem exec_completes {i : Instr} {s t : State} (h : exec i s = .next t) : Completes s i t := by
  cases i <;> cases h <;> with_reducible constructor

/-- What an instruction that completes does: an effect of at most 12 clocks; or it is RET cc, with 4 or 16; or it writes IME
or a halt flag. -/
theorem effect_of_completes {i : Instr} {s t : State} (h : Completes s i t) :
    (∃ n ≤ 3, Effect (4 * n) s t)
    ∨ (i.encode.length = 1 ∧ ∃ n ≤ 4, Effect (4 * n) s t)
    ∨ (i = .di ∧ t = { s with ime := false }) ∨ (i = .ei ∧ t = { s with ime := true })
    ∨ (i = .reti ∧ t = { returnFromCall s with ime := true }) ∨ (i = .halt ∧ t = haltCpu s) := by
  have ret (cc : Cond) : ∃ n ≤ 4, Effect (4 * n) s (returnIf cc s) := by
    unfold returnIf
    simp only
    split
    · exact ⟨4, by decide, (Effect.internal s).trans (.returnFromCall _)⟩
    · exact ⟨1, by decide, .internal s⟩
  cases h
  case retNZ => exact .inr (.inl ⟨rfl, ret .nz⟩)
  case retZ => exact .inr (.inl ⟨rfl, ret .z⟩)
  case retNC => exact .inr (.inl ⟨rfl, ret .nc⟩)
  case retC => exact .inr (.inl ⟨rfl, ret .c⟩)
  case di => exact .inr (.inr (.inl ⟨rfl, rfl⟩))
  case ei => exact .inr (.inr (.inr (.inl ⟨rfl, rfl⟩)))
  case reti => exact .inr (.inr (.inr (.inr (.inl ⟨rfl, rfl⟩))))
  case halt => exact .inr (.inr (.inr (.inr (.inr ⟨rfl, rfl⟩))))
  all_goals left
  case shiftReg => exact ⟨0, by decide, (Effect.setR8 _ _ s).trans (.setF _ _)⟩
  case shiftHl =>
    exact ⟨2, by decide, (Effect.memRead _ s).trans <| (Effect.memWrite _ _ _).trans (.setF _ _)⟩
  case bitReg => exact ⟨0, by decide, .setF _ s⟩
  case bitHl => exact ⟨1, by decide, (Effect.memRead _ s).trans (.setF _ _)⟩
  case resReg | setReg | ldReg | ldRegImm => exact ⟨0, by decide, .setR8 _ _ s⟩
  case resHl | setHlBit => exact ⟨2, by decide, (Effect.memRead _ s).trans (.memWrite _ _ _)⟩
  case prefixCb =>
    obtain ⟨n, hn, heff⟩ := cbEntry_effect (fetch8 s).1 (fetch8 s).2
    exact ⟨1 + n, by omega, Nat.mul_add 4 1 n ▸ (Effect.fetch8 s).trans heff⟩
  case ldRegHl | ldAFrom => exact ⟨1, by decide, (Effect.memRead _ s).trans (.setR8 _ _ _)⟩
  case ldAFromStep => exact ⟨1, by decide, ((Effect.memRead _ s).trans (.setR8 _ _ _)).trans (.setHl _ _)⟩
  case ldHlReg | ldAtA | memWrite => exact ⟨1, by decide, .memWrite _ _ s⟩
  case ldAtAStep => exact ⟨1, by decide, (Effect.memWrite _ _ s).trans (.setHl _ _)⟩
  case setR16 => exact ⟨0, by decide, .setR16 _ _ s⟩
  case memWrite16 => exact ⟨2, by decide, (Effect.memWrite _ _ s).trans (.memWrite _ _ _)⟩
  case pushPair => exact ⟨3, by decide, (Effect.internal s).trans (.push16 _ _)⟩
  case popPair => exact ⟨2, by decide, (Effect.pop16 s).trans (.setR16Stack _ _ _)⟩
  case ldSpHl => exact ⟨1, by decide, (Effect.sp _ s).trans (.internal _)⟩
  case aluReg | aluOn => exact ⟨0, by decide, .aluOn _ _ s⟩
  case aluHl => exact ⟨1, by decide, (Effect.memRead _ s).trans (.aluOn _ _ _)⟩
  case incReg | decReg | rotateA | daaA | cplA => exact ⟨0, by decide, (Effect.setR8 _ _ s).trans (.setF _ _)⟩
  case incHlByte | decHlByte =>
    exact ⟨2, by decide, (Effect.memRead _ s).trans <| (Effect.memWrite _ _ _).trans (.setF _ _)⟩
  case addHlPair | ldHlSpDisp =>
    exact ⟨1, by decide, (Effect.setHl _ s).trans <| (Effect.setF _ _).trans (.internal _)⟩
  case stepPair => exact ⟨1, by decide, (Effect.setR16 _ _ s).trans (.internal _)⟩
  case addSpDisp =>
    exact ⟨2, by decide, (Effect.sp _ s).trans <| (Effect.setF _ _).trans <| (Effect.internal _).trans (.internal _)⟩
  case setF => exact ⟨0, by decide, .setF _ s⟩
  case jumpTo | jumpBy => exact ⟨1, by decide, .jumpTo _ s⟩
  case jumpIf | jumpByIf => exact Effect.conditional (n := 1) (by decide) (.jumpTo _ s)
  case jpHl => exact ⟨0, by decide, .pc _ s⟩
  case callTo => exact ⟨3, by decide, .callTo _ s⟩
  case callIf => exact Effect.conditional (n := 3) (by decide) (.callTo _ s)
  case returnFromCall => exact ⟨3, by decide, .returnFromCall s⟩
  case nop => exact ⟨0, by decide, .refl s⟩

/-- What an instruction that completes does to the rest of the machine: bus writes. -/
theorem exec_bus {i : Instr} {s t : State} (h : exec i s = .next t) : BusEffect s t := by
  rcases effect_of_completes (exec_completes h) with ⟨n, -, heff⟩ | ⟨-, n, -, heff⟩ | ⟨-, rfl⟩ | ⟨-, rfl⟩ | ⟨-, rfl⟩ | ⟨-, rfl⟩
  · exact heff.bus
  · exact heff.bus
  · exact .cpu { s.cpu with ime := false } .refl
  · exact .cpu { s.cpu with ime := true } .refl
  · exact .cpu { (returnFromCall s).cpu with ime := true } (Effect.returnFromCall s).bus
  · unfold haltCpu
    split
    · exact .cpu { s.cpu with halt := true } .refl
    · exact .cpu { s.cpu with haltBug := true } .refl

/-! ## The parameters and the latch -/

/-- The parts of the machine that no bus write changes: the parameters and the boot ROM (00 R6, 20 R66). -/
def SameParameters (s t : State) : Prop :=
  t.cartRamPresent = s.cartRamPresent ∧ t.spriteFetchClocks = s.spriteFetchClocks ∧ t.bootRom = s.bootRom

theorem SameParameters.busWrite {s t : State} (h : SameParameters s t) (a : Word) (v : Byte) :
    SameParameters s (busWrite a v t) := by
  rw [busWrite_state]
  exact h

theorem BusEffect.sameParameters {s t : State} (h : BusEffect s t) : SameParameters s t :=
  h.keeps (P := SameParameters s) (fun _ _ h => h) (fun _ _ h => h) (fun _ a v h => h.busWrite a v) ⟨rfl, rfl, rfl⟩

/-- Settles O12: by the effect of each shared meaning, and the four rows that write IME or a halt flag. -/
theorem onlyNamedInstructionsWriteImeAndHalt : Obligations.OnlyNamedInstructionsWriteImeAndHalt := by
  unfold Obligations.OnlyNamedInstructionsWriteImeAndHalt
  intro i s t h
  obtain ⟨hcart, hsfc, hboot⟩ := (exec_bus h).sameParameters
  have of_effect {k : Nat} {u : State} (heff : Effect k s u) :
      u.ime = s.ime ∧ ¬ (u.halt ≠ s.halt ∨ u.haltBug ≠ s.haltBug) ∧ u.opcodePc = s.opcodePc :=
    ⟨heff.ime, by rw [heff.halt, heff.haltBug]; simp, heff.opcodePc⟩
  rcases effect_of_completes (exec_completes h) with ⟨n, -, heff⟩ | ⟨-, n, -, heff⟩ | ⟨rfl, rfl⟩ | ⟨rfl, rfl⟩ | ⟨rfl, rfl⟩ | ⟨rfl, rfl⟩
  · obtain ⟨hime, hhalt, hpc⟩ := of_effect heff
    exact ⟨fun hne => absurd hime hne, fun hne => absurd hne hhalt, hcart, hsfc, hboot, hpc⟩
  · obtain ⟨hime, hhalt, hpc⟩ := of_effect heff
    exact ⟨fun hne => absurd hime hne, fun hne => absurd hne hhalt, hcart, hsfc, hboot, hpc⟩
  · exact ⟨fun _ => .inr (.inl rfl), by simp, hcart, hsfc, hboot, rfl⟩
  · exact ⟨fun _ => .inl rfl, by simp, hcart, hsfc, hboot, rfl⟩
  · obtain ⟨-, hhalt, hpc⟩ := of_effect (Effect.returnFromCall s)
    exact ⟨fun _ => .inr (.inr rfl), fun hne => absurd hne hhalt, hcart, hsfc, hboot, hpc⟩
  · have hkept : (haltCpu s).ime = s.ime ∧ (haltCpu s).opcodePc = s.opcodePc := by
      unfold haltCpu
      split <;> exact ⟨rfl, rfl⟩
    exact ⟨fun hne => absurd hkept.1 hne, fun _ => rfl, hcart, hsfc, hboot, hkept.2⟩

/-! ## The Step's total (40 R128) -/

/-- The fetch counts 4 clocks for each byte of the instruction it takes. -/
theorem fetchInstr_clocks (s : State) :
    (fetchInstr s).2.clocks = s.clocks + 4 * (fetchInstr s).1.encode.length ∧ 1 ≤ (fetchInstr s).1.encode.length
      ∧ (fetchInstr s).1.encode.length ≤ 3 := by
  obtain ⟨hinstr, hstate⟩ := fetchInstr_eq s
  have hlen : (fetchInstr s).1.encode.length = opLength (busRead s.pc s).1 := by
    rw [hinstr]
    rcases opLength_cases (busRead s.pc s).1 with h1 | h2 | h3
    · simp only [h1, if_true, show (1 : Nat) ≠ 3 by decide, if_false, (encode_of_opLength_one h1).2, List.length_singleton]
    · simp only [h2, show (2 : Nat) ≠ 1 by decide, show (2 : Nat) ≠ 3 by decide, if_false,
        (encode_of_opLength_two h2 _).2, List.length_cons, List.length_nil]
    · simp only [h3, show (3 : Nat) ≠ 1 by decide, if_true, if_false, (encode_of_opLength_three h3 _ _).2,
        List.length_cons, List.length_nil]
  refine ⟨by rw [hstate, hlen], ?_, ?_⟩ <;> rw [hlen] <;>
    rcases opLength_cases (busRead s.pc s).1 with h | h | h <;> rw [h] <;> decide

/-- After a fetch of 4 clocks for each byte, an instruction that completes brings the total to 4 to 24 clocks, a multiple
of 4. -/
theorem exec_clocks {i : Instr} {s t : State} (h : exec i s = .next t) (hfetch : s.clocks = 4 * i.encode.length)
    (hpos : 1 ≤ i.encode.length) (hmax : i.encode.length ≤ 3) : ∃ n, 1 ≤ n ∧ n ≤ 6 ∧ t.clocks = 4 * n := by
  have of_effect {n : Nat} {u : State} (heff : Effect (4 * n) s u) : u.clocks = 4 * (i.encode.length + n) := by
    rw [heff.clocks, hfetch, Nat.mul_add]
  rcases effect_of_completes (exec_completes h) with
    ⟨n, hn, heff⟩ | ⟨hone, n, hn, heff⟩ | ⟨-, rfl⟩ | ⟨-, rfl⟩ | ⟨-, rfl⟩ | ⟨-, rfl⟩
  · exact ⟨_, by omega, by omega, of_effect heff⟩
  · exact ⟨_, by omega, by omega, of_effect heff⟩
  · exact ⟨_, hpos, by omega, hfetch⟩
  · exact ⟨_, hpos, by omega, hfetch⟩
  · exact ⟨_, by omega, by omega, of_effect (n := 3) (u := returnFromCall s) (.returnFromCall s)⟩
  · refine ⟨_, hpos, by omega, Eq.trans ?_ hfetch⟩
    unfold haltCpu
    split <;> rfl

theorem handOff_clocks (s : State) : (handOff s).clocks = s.clocks := by rw [handOff_state]

/-- Dispatch adds no clock, or 20 (60 R325). -/
theorem interruptDispatch_clocks (b : Bool) (s : State) :
    (interruptDispatch b s).clocks = s.clocks ∨ (interruptDispatch b s).clocks = s.clocks + 20 := by
  rcases interruptDispatch_cases b s with h | h | ⟨-, -, h⟩ <;> rw [h]
  · exact .inl rfl
  · exact .inl rfl
  · exact .inr (by rw [takeInterrupt_eq])

/-- Settles O8: a halted cycle of 4, or fetch and execution of 4 to 24, and a dispatch of 0 or 20. -/
theorem stepTotalIsMultipleOfFour : Obligations.StepTotalIsMultipleOfFour := by
  unfold Obligations.StepTotalIsMultipleOfFour
  intro s t h
  obtain ⟨u, n, h1, h6, hclocks, rfl⟩ : ∃ u n, 1 ≤ n ∧ n ≤ 6 ∧ u.clocks = 4 * n ∧ t = endStep s.ime u := by
    rcases step_next h with ⟨-, rfl⟩ | ⟨-, u, hexec, rfl⟩
    · exact ⟨_, 1, by decide, by decide, rfl, rfl⟩
    · obtain ⟨hfetch, hpos, hmax⟩ := fetchInstr_clocks (beginStep s)
      rw [beginStep_clocks, Nat.zero_add] at hfetch
      obtain ⟨n, h1, h6, hclocks⟩ := exec_clocks hexec hfetch hpos hmax
      exact ⟨u, n, h1, h6, hclocks, rfl⟩
  rw [endStep, handOff_clocks]
  rcases interruptDispatch_clocks s.ime u with hd | hd <;> rw [hd, hclocks] <;> omega

/-- Settles O9: with IME clear at entry dispatch is the identity or a wake-up. -/
theorem dispatchUsesImeOfEntry : Obligations.DispatchUsesImeOfEntry := by
  unfold Obligations.DispatchUsesImeOfEntry
  intro s hime hrun
  have hend (u : State) : endStep s.ime u = handOff (if pendingInterrupts u = 0 then u else { u with halt := false }) := by
    unfold endStep
    rw [hime]
    split
    · rw [interruptDispatch_idle ‹_›]
    · rw [interruptDispatch_wake ‹_›]
  simp only [← hend]
  exact step_running hrun

/-! ## What a whole step keeps -/

/-- A push is two bus writes, wherever PC goes with it. -/
theorem pushedState_bus (v pc : Word) (clocks : Nat) (s : State) :
    BusEffect s { pushedState v s with pc := pc, clocks := clocks } :=
  .cpu (t := busWrite (s.sp - 2) (loByte v) (busWrite (s.sp - 1) (hiByte v) s))
    { (pushedState v s).cpu with pc := pc, clocks := clocks } (.write _ _ (.write _ _ .refl))

/-- What neither bus writes nor the devices' clocks change, and the CPU's state, IE, IF and draws have no part in, a step
keeps. -/
theorem step_keeps {P : State → Prop} (hcpu : ∀ t c, P t → P (t.withCpu c))
    (hdraw : ∀ (t : State) n, P t → P { t with draws := n }) (hifr : ∀ (t : State) v, P t → P { t with ifr := v })
    (hwrite : ∀ t a v, P t → P (busWrite a v t)) (hend : ∀ t, P t → P (handOff t))
    {s t : State} (h : step s = .next t) (hs : P s) : P t := by
  have hdispatch (b : Bool) (u : State) (hu : P u) : P (interruptDispatch b u) := by
    rcases interruptDispatch_cases b u with h | h | ⟨-, -, h⟩ <;> rw [h]
    · exact hu
    · exact hcpu u { u.cpu with halt := false } hu
    · rw [takeInterrupt_eq]
      refine (pushedState_bus _ _ _ _).keeps hcpu hdraw hwrite ?_
      exact hifr _ _ (hcpu u { u.cpu with halt := false, ime := false } hu)
  rcases step_next h with ⟨-, rfl⟩ | ⟨-, u, hexec, rfl⟩
  · exact hend _ (hdispatch _ _ (hcpu s { s.cpu with clocks := 4 } hs))
  · refine hend _ (hdispatch _ _ ((exec_bus hexec).keeps hcpu hdraw hwrite ?_))
    rw [(fetchInstr_eq (beginStep s)).2]
    exact hdraw _ _ (hcpu s { s.cpu with pc := _, haltBug := false, clocks := _, opcodePc := _ } hs)

/-! ## The boot-ROM latch and ROM -/

/-- The I/O page's latch is only ever cleared (20 R70). -/
theorem busWrite_bootRomEnabled {s : State} (h : s.bootRomEnabled = false) (a : Word) (v : Byte) :
    (busWrite a v s).bootRomEnabled = false := by
  have hlcdc : (writeLcdc v s).bootRomEnabled = false := by
    unfold writeLcdc
    simp only
    split_ifs <;> exact h
  unfold busWrite
  split
  · exact h
  · cases regionOf a
    case cartRam => simp only; split <;> exact h
    case io =>
      simp only [ioWrite]
      split
      case h_6 => exact hlcdc
      case h_11 => rw [dmaWrite_state]; exact h
      case h_17 =>
        split
        · exact h
        · rfl
      all_goals exact h
    all_goals exact h

/-- Settles O47: the latch's own write and read, and that no bus write or device sets it. -/
theorem bootRomLatchIsOneWay : Obligations.BootRomLatchIsOneWay := by
  unfold Obligations.BootRomLatchIsOneWay
  refine ⟨fun _ _ => rfl, fun _ => rfl, fun s t h => ?_⟩
  exact step_keeps (P := fun u => u.bootRomEnabled = false) (fun _ _ h => h) (fun _ _ h => h) (fun _ _ h => h)
    (fun _ a v h => busWrite_bootRomEnabled h a v) (fun u h => by rw [handOff_state]; exact h) h

/-- No write reaches a byte of cartridge ROM (20 R66). -/
theorem busWrite_read_rom (a : Word) (v : Byte) (s : State) {k : Nat} (hk : k ≤ 0x7FFF) :
    (busWrite a v s).mem.read k = s.mem.read k := by
  by_cases hrom : regionOf a = .rom
  · simp only [busWrite, gated, hrom, Bool.false_eq_true, if_false]
  · refine busWrite_read a v s (fun hhome => ?_) fun _ => .inl (by omega)
    have hbounds := regionOf_bounds a
    by_cases hmirror : regionOf a = .mirror
    · rw [homeKey_of_mirror hmirror] at hhome
      omega
    · rw [homeKey_of_ne_mirror hmirror] at hhome
      exact hrom (regionOf_eq_of_bounds ⟨Nat.zero_le _, hhome ▸ hk⟩)

/-- Settles O48: bus writes reach neither ROM, and the parameters are written by nothing. -/
theorem romIsNeverWritten : Obligations.RomIsNeverWritten := by
  unfold Obligations.RomIsNeverWritten
  intro s t h
  obtain ⟨hrom, hcart, hsfc, hboot⟩ := step_keeps
    (P := fun u => (∀ k ≤ 0x7FFF, u.mem.read k = s.mem.read k) ∧ SameParameters s u)
    (fun _ _ h => h) (fun _ _ h => h) (fun _ _ h => h)
    (fun u a v ⟨hrom, hpar⟩ => ⟨fun k hk => (busWrite_read_rom a v u hk).trans (hrom k hk), hpar.busWrite a v⟩)
    (fun u h => by rw [handOff_state]; exact h) h ⟨fun _ _ => rfl, rfl, rfl, rfl⟩
  exact ⟨hrom, hboot, hcart, hsfc⟩

end Sys2Proof.Machine
end

section
/-! The PPU's clock: what each case of it is, and the bounds that it keeps (spec 62 R387 to R402, 10 R41). -/

namespace Sys2Proof.Machine

/-! ## One PPU clock case by case (62 R389) -/

/-- The work of mode 3, if the PPU is in it, ends in mode 3 or mode 0 and touches the drawing alone. -/
theorem transferClock_state (mem : Memory) (sfc : Nat) (p : Ppu) :
    transferClock mem sfc p = { p with
      mode := (transferClock mem sfc p).mode, spriteBuf := (transferClock mem sfc p).spriteBuf
      line := (transferClock mem sfc p).line, fb := (transferClock mem sfc p).fb } := by
  unfold transferClock
  split
  · exact mode3Clock_state mem sfc p
  · rfl

theorem transferClock_of_ne {p : Ppu} (h : p.mode ≠ .transfer) (mem : Memory) (sfc : Nat) :
    transferClock mem sfc p = p := if_neg h

/-- Any mode but mode 3 is the mode after the clock's work exactly if it was the mode before, except mode 0. -/
theorem transferClock_mode {m : PpuMode} (ht : m ≠ .transfer) (hb : m ≠ .hblank) (mem : Memory) (sfc : Nat) (p : Ppu) :
    (transferClock mem sfc p).mode = m ↔ p.mode = m := by
  by_cases h : p.mode = .transfer
  · rw [transferClock, if_pos h, h]
    rcases mode3Clock_mode mem sfc p with e | e <;> simp only [e, h, ht.symm, hb.symm]
  · rw [transferClock_of_ne h]

theorem advanceDot_eq (mem : Memory) (sfc : Nat) (p : Ppu) :
    p.advanceDot mem sfc =
      if p.dot + 1 = 80 ∧ p.mode = .oamSearch then { p with dot := 80 }.enterMode3
      else { transferClock mem sfc p with dot := p.dot + 1 } := by
  have hdot : (transferClock mem sfc p).dot = p.dot := by rw [transferClock_state]
  have hmode := transferClock_mode (m := .oamSearch) (by decide) (by decide) mem sfc p
  have hdef : p.advanceDot mem sfc =
      if (transferClock mem sfc p).dot + 1 = 80 ∧ (transferClock mem sfc p).mode = .oamSearch then
        { transferClock mem sfc p with dot := (transferClock mem sfc p).dot + 1 }.enterMode3
      else { transferClock mem sfc p with dot := (transferClock mem sfc p).dot + 1 } := rfl
  rw [hdef, hdot]
  simp only [hmode]
  split
  case isTrue h => rw [transferClock_of_ne (by rw [h.2]; decide), h.1]
  case isFalse => rfl

/-- LY one further, as a byte. -/
theorem nextLy_toNat (ly : Byte) : (BitVec.ofNat 8 ((ly.toNat + 1) % 154)).toNat = (ly.toNat + 1) % 154 := by
  rw [BitVec.toNat_ofNat]
  omega

theorem nextLy_eq_144 (ly : Byte) : BitVec.ofNat 8 ((ly.toNat + 1) % 154) = 144 ↔ (ly.toNat + 1) % 154 = 144 := by
  constructor
  · intro h
    rw [← nextLy_toNat, h]
    rfl
  · exact fun h => BitVec.eq_of_toNat_eq ((nextLy_toNat ly).trans h)

/-- One PPU clock, case by case (62 R389). -/
theorem ppuClock_eq (s : State) :
    let p := transferClock s.mem s.spriteFetchClocks.val s.ppu
    let dot := s.ppu.dot + 1
    let ly := (s.ppu.ly.toNat + 1) % 154
    ppuClock s = updateStatLine
      (if dot = 456 then
        (if ly = 144 then
          { s with
            ifr := s.ifr ||| 0b00001
            ppu := { p with dot := 0, ly := 144, mode := .vblank, frame := p.fb, frames := s.ppu.frames + 1 } }
        else if ly < 144 then
          { s with ppu := Ppu.search s.mem { p with dot := 0, ly := BitVec.ofNat 8 ly, mode := .oamSearch } }
        else { s with ppu := { p with dot := 0, ly := BitVec.ofNat 8 ly } })
      else if dot = 80 ∧ s.ppu.mode = .oamSearch then
        { s with ppu := { s.ppu with
            dot := 80
            mode := .transfer
            line := { s.ppu.line with
              fstate := .tileIndex, fphase := false, tileCol := 0, inWindow := false
              fifo := [], lx := 0, stall := 0, discard := s.ppu.scx.toNat % 8 } } }
      else { s with ppu := { p with dot := dot } }) := by
  intro p dot ly
  have hp : p = { s.ppu with mode := p.mode, spriteBuf := p.spriteBuf, line := p.line, fb := p.fb } :=
    transferClock_state ..
  have hly : p.ly = s.ppu.ly := by rw [hp]
  have hframes : p.frames = s.ppu.frames := by rw [hp]
  unfold ppuClock
  rw [advanceDot_eq]
  by_cases hend : dot = 456
  · have h80 : ¬ (s.ppu.dot + 1 = 80 ∧ s.ppu.mode = .oamSearch) := fun h => by
      have : dot = 80 := h.1
      omega
    have hlt : (BitVec.ofNat 8 ly).toNat = ly := nextLy_toNat s.ppu.ly
    have h144 : BitVec.ofNat 8 ly = 144 ↔ ly = 144 := nextLy_eq_144 s.ppu.ly
    rw [if_neg h80, if_pos hend]
    unfold Ppu.nextLine
    simp only [show transferClock s.mem s.spriteFetchClocks.val s.ppu = p from rfl, hly,
      show (s.ppu.ly.toNat + 1) % 154 = ly from rfl, hend, if_true, h144, hlt]
    clear_value ly
    by_cases hv : ly = 144
    · simp only [Ppu.deliverFrame, hv, if_true, hframes]
      rfl
    · have hne : BitVec.ofNat 8 ly ≠ 144 := fun e => hv (h144.1 e)
      simp only [hv, if_false]
      by_cases hvis : ly < 144 <;> simp only [Ppu.search, hvis, hne, if_true, if_false]
  · rw [if_neg hend]
    split
    case isTrue h => rw [if_neg (by show (80 : Nat) ≠ 456; decide)]; rfl
    case isFalse => exact if_neg hend

/-! ## What mode 3 keeps (10 R41) -/

/-- The bounds of the drawing: the sprite buffer, the line, and the frame buffer; mode 3 has pixels left. -/
def DrawInv (p : Ppu) : Prop :=
  p.spriteBuf.length ≤ 10 ∧ LineInv p.line ∧ (p.mode = .transfer → p.line.lx < 160) ∧ FrameInv p.fb

theorem FrameInv.write {m : Memory} (h : FrameInv m) {k : Nat} {v : Byte} (hk : k < 160 * 144) (hv : v.toNat ≤ 3) :
    FrameInv (m.write k v) := by
  refine ⟨Memory.wf_write h.1 k v, fun x hx => ?_⟩
  rcases Memory.mem_write hx with rfl | hx
  · exact ⟨hk, hv⟩
  · exact h.2 x hx

theorem shade_le (p : Ppu) (px : Pixel) : (p.shade px).toNat ≤ 3 := by
  rw [shade_eq, BitVec.toNat_ofNat]
  omega

theorem tilePixels_length (p : Ppu) : p.tilePixels.length = 8 := rfl

/-- The fetcher keeps the bounds: it pushes eight pixels where eight or fewer stand (62 R411). -/
theorem DrawInv.fetcherClock {p : Ppu} (h : DrawInv p) (mem : Memory) : DrawInv (p.fetcherClock mem) := by
  obtain ⟨hbuf, ⟨hfifo, hlx, hdiscard, hstall⟩, hleft, hfb⟩ := h
  rw [fetcherClock_eq]
  refine ⟨hbuf, ?_, ?_, hfb⟩
  · split
    · exact ⟨hfifo, hlx, hdiscard, hstall⟩
    · cases p.line.fstate
      case push =>
        simp only
        split
        · refine ⟨?_, hlx, hdiscard, hstall⟩
          rw [List.length_append, tilePixels_length]
          omega
        · exact ⟨hfifo, hlx, hdiscard, hstall⟩
      all_goals exact ⟨hfifo, hlx, hdiscard, hstall⟩
  · intro hm
    have hlx' := hleft hm
    simp only
    split
    · exact hlx'
    · cases p.line.fstate
      case push => simp only; split <;> exact hlx'
      all_goals exact hlx'

theorem mixRow_length (sp : Sprite) (hi lo : Byte) (i : Nat) (fifo : List Pixel) :
    (mixRow sp hi lo i fifo).length = fifo.length := by
  induction fifo generalizing i with
  | nil => rfl
  | cons px rest ih =>
    unfold mixRow
    split
    · rw [List.length_cons, ih, List.length_cons]
    · rfl

theorem foldl_mixSprite_length (mem : Memory) (p : Ppu) (sps : List Sprite) (fifo : List Pixel) :
    (sps.foldl (fun f sp => p.mixSprite mem sp f) fifo).length = fifo.length := by
  induction sps generalizing fifo with
  | nil => rfl
  | cons sp sps ih => exact (ih _).trans (mixRow_length ..)

/-- The sprite trigger keeps the bounds where no fetch is waited for: at most ten sprites, each of at most 16 clocks
(62 R402, R403). -/
theorem DrawInv.fetchSprites {p : Ppu} (h : DrawInv p) (hstall : p.line.stall = 0) (mem : Memory) {sfc : Nat}
    (hsfc : sfc ≤ 16) : DrawInv (p.fetchSprites mem sfc) := by
  obtain ⟨hbuf, ⟨hfifo, hlx, hdiscard, -⟩, hleft, hfb⟩ := h
  rw [fetchSprites_eq]
  refine ⟨?_, ⟨?_, hlx, hdiscard, ?_⟩, hleft, hfb⟩
  · rw [List.length_map]
    exact hbuf
  · rw [foldl_mixSprite_length]
    exact hfifo
  · rw [hstall, Nat.zero_add]
    exact (Nat.mul_le_mul hsfc ((List.length_filter_le ..).trans hbuf) : _ ≤ 16 * 10)

/-- Outputting a pixel keeps the bounds: the column and the line are on the screen (62 R402). -/
theorem DrawInv.outputPixel {p : Ppu} (h : DrawInv p) (hm : p.mode = .transfer) (hly : p.ly.toNat < 144) {px : Pixel}
    {rest : List Pixel} (hrest : p.line.fifo = px :: rest) : DrawInv (p.outputPixel px rest) := by
  obtain ⟨hbuf, ⟨hfifo, -, hdiscard, hstall⟩, hleft, hfb⟩ := h
  have hlx := hleft hm
  rw [hrest, List.length_cons] at hfifo
  refine ⟨hbuf, ⟨?_, ?_, hdiscard, hstall⟩, ?_, hfb.write (by omega) (shade_le ..)⟩
  · exact Nat.le_of_succ_le hfifo
  · exact hlx
  · intro hm'
    simp only [Ppu.outputPixel] at hm' ⊢
    split at hm'
    · cases hm'
    · omega

theorem DrawInv.outputClock {p : Ppu} (h : DrawInv p) (hm : p.mode = .transfer) (hly : p.ly.toNat < 144)
    (mem : Memory) : DrawInv (p.outputClock mem) := by
  unfold Ppu.outputClock
  split
  · obtain ⟨hbuf, ⟨hfifo, hlx, hdiscard, hstall⟩, hrest⟩ := h
    exact ⟨hbuf, ⟨hfifo, hlx, hdiscard, (Nat.sub_le ..).trans hstall⟩, hrest⟩
  · split
    next => exact h.fetcherClock mem
    next px rest hfifo =>
      have hout := h.outputPixel hm hly hfifo
      simp only
      split
      · exact hout
      · exact hout.fetcherClock mem

/-- A clock of mode 3 keeps the bounds (62 R402). -/
theorem DrawInv.mode3Clock {p : Ppu} (h : DrawInv p) (hm : p.mode = .transfer) (hly : p.ly.toNat < 144)
    (mem : Memory) {sfc : Nat} (hsfc : sfc ≤ 16) : DrawInv (p.mode3Clock mem sfc) := by
  obtain ⟨hbuf, ⟨hfifo, hlx, hdiscard, hstall⟩, hleft, hfb⟩ := id h
  unfold Ppu.mode3Clock
  split
  · exact ⟨hbuf, ⟨hfifo, hlx, hdiscard, (Nat.sub_le ..).trans hstall⟩, hleft, hfb⟩
  split
  · split
    · exact ⟨hbuf, ⟨Nat.zero_le _, hlx, Nat.zero_le _, hstall⟩, hleft, hfb⟩
    split
    · refine DrawInv.fetcherClock (p := p.dropPixel) ⟨hbuf, ⟨?_, hlx, ?_, hstall⟩, hleft, hfb⟩ mem
      · show p.line.fifo.tail.length ≤ 16
        rw [List.length_tail]
        omega
      · show p.line.discard - 1 ≤ 7
        omega
    · refine (h.fetchSprites (by omega) mem hsfc).outputClock ?_ ?_ mem <;> rw [fetchSprites_eq]
      · exact hm
      · exact hly
  · exact h.fetcherClock mem

theorem DrawInv.transferClock {p : Ppu} (h : DrawInv p) (hly : p.mode = .transfer → p.ly.toNat < 144)
    (mem : Memory) {sfc : Nat} (hsfc : sfc ≤ 16) : DrawInv (transferClock mem sfc p) := by
  unfold Machine.transferClock
  split
  · exact h.mode3Clock ‹_› (hly ‹_›) mem hsfc
  · exact h

/-! ## What a PPU clock keeps (10 R41) -/

/-- The invariant of the PPU but for the STAT line, which every clock evaluates last. -/
def PpuBounds (p : Ppu) : Prop :=
  p.ly.toNat ≤ 153 ∧ p.dot ≤ 455 ∧ (p.lcdOn = true → (p.mode = .vblank ↔ 144 ≤ p.ly.toNat))
  ∧ (p.lcdOn = false → p.ly = 0 ∧ p.dot = 0 ∧ p.mode = .hblank) ∧ DrawInv p ∧ FrameInv p.frame

theorem ppuInv_iff (p : Ppu) : PpuInv p ↔ PpuBounds p ∧ p.statLine = p.statLevel := by
  constructor
  · rintro ⟨hly, hdot, hbuf, hline, hleft, hon, hoff, hstat, hfb, hframe⟩
    exact ⟨⟨hly, hdot, hon, hoff, ⟨hbuf, hline, hleft, hfb⟩, hframe⟩, hstat⟩
  · rintro ⟨⟨hly, hdot, hon, hoff, ⟨hbuf, hline, hleft, hfb⟩, hframe⟩, hstat⟩
    exact ⟨hly, hdot, hbuf, hline, hleft, hon, hoff, hstat, hfb, hframe⟩

/-- Evaluating the STAT line completes the invariant. -/
theorem updateStatLine_ppuInv {s : State} (h : PpuBounds s.ppu) : PpuInv (updateStatLine s).ppu :=
  (ppuInv_iff _).2 ⟨h, rfl⟩

theorem search_spriteBuf_length (mem : Memory) (p : Ppu) : (p.search mem).spriteBuf.length ≤ 10 := by
  rw [search_eq]
  show (sortByX (p.matching mem) []).length ≤ 10
  rw [(sortByX_perm _ []).length_eq, List.nil_append]
  exact List.length_take_le _ _

/-- The OAM search keeps the bounds. -/
theorem PpuBounds.search {p : Ppu} (h : PpuBounds p) (mem : Memory) : PpuBounds (p.search mem) := by
  obtain ⟨hly, hdot, hon, hoff, ⟨-, hline, hleft, hfb⟩, hframe⟩ := h
  have hbuf := search_spriteBuf_length mem p
  rw [search_eq] at hbuf ⊢
  exact ⟨hly, hdot, hon, hoff, ⟨hbuf, hline, hleft, hfb⟩, hframe⟩

/-- While the LCD is on, mode 3 is on a visible line. -/
theorem PpuBounds.ly_of_transfer {p : Ppu} (h : PpuBounds p) (hlcd : p.lcdOn = true) (hm : p.mode = .transfer) :
    p.ly.toNat < 144 := by
  obtain ⟨-, -, hon, -⟩ := h
  have hiff := hon hlcd
  rw [hm] at hiff
  exact Nat.lt_of_not_le fun hge => PpuMode.noConfusion (hiff.2 hge)

/-- A PPU clock with the LCD on keeps the invariant. -/
theorem ppuClock_ppuInv {s : State} (h : PpuInv s.ppu) (hlcd : s.ppu.lcdOn = true) : PpuInv (ppuClock s).ppu := by
  obtain ⟨hbounds, -⟩ := (ppuInv_iff _).1 h
  have hdraw : DrawInv (transferClock s.mem s.spriteFetchClocks.val s.ppu) :=
    hbounds.2.2.2.2.1.transferClock (hbounds.ly_of_transfer hlcd) s.mem (Nat.le_of_lt_succ s.spriteFetchClocks.isLt)
  have hvblank := transferClock_mode (m := .vblank) (by decide) (by decide) s.mem s.spriteFetchClocks.val s.ppu
  have hstate := transferClock_state s.mem s.spriteFetchClocks.val s.ppu
  have hly := nextLy_toNat s.ppu.ly
  rw [ppuClock_eq]
  apply updateStatLine_ppuInv
  generalize transferClock s.mem s.spriteFetchClocks.val s.ppu = p at hdraw hvblank hstate ⊢
  obtain ⟨hly153, hdot, hon, hoff, hdraw0, hframe⟩ := hbounds
  have hlcd' : p.lcdOn = true := by rw [hstate]; exact hlcd
  have hframe' : p.frame = s.ppu.frame := by rw [hstate]
  have hlcdc : p.lcdc = s.ppu.lcdc := by rw [hstate]
  have hly' : p.ly = s.ppu.ly := by rw [hstate]
  obtain ⟨hbuf, hline, hleft, hfb⟩ := hdraw
  have hiff := hon hlcd
  have offAbsurd {q : Ppu} {P : Prop} (hq : q.lcdc = p.lcdc) (hoff : q.lcdOn = false) : P := by
    unfold Ppu.lcdOn at hoff hlcd'
    rw [hq, hlcd'] at hoff
    cases hoff
  split_ifs with h456 h144 hvis h80
  · exact ⟨by show (144 : Byte).toNat ≤ 153; decide, Nat.zero_le _, fun _ => ⟨fun _ => le_rfl, fun _ => rfl⟩,
      offAbsurd rfl, ⟨hbuf, hline, fun hm => (by cases hm), hfb⟩, hfb⟩
  · refine PpuBounds.search (p := { p with dot := 0, ly := BitVec.ofNat 8 _, mode := .oamSearch })
      ⟨?_, Nat.zero_le _, fun _ => ?_, offAbsurd rfl, ⟨hbuf, hline, fun hm => (by cases hm), hfb⟩, hframe' ▸ hframe⟩ s.mem
    · show (BitVec.ofNat 8 _).toNat ≤ 153
      omega
    · show PpuMode.oamSearch = .vblank ↔ 144 ≤ (BitVec.ofNat 8 _).toNat
      rw [hly]
      exact ⟨fun hm => (by cases hm), fun hge => absurd hvis (Nat.not_lt.2 hge)⟩
  · have hge : 144 ≤ s.ppu.ly.toNat := by omega
    have hmode := hvblank.2 (hiff.2 hge)
    refine ⟨?_, Nat.zero_le _, fun _ => ?_, offAbsurd rfl, ⟨hbuf, hline, hleft, hfb⟩, hframe' ▸ hframe⟩
    · show (BitVec.ofNat 8 _).toNat ≤ 153
      omega
    · show p.mode = .vblank ↔ 144 ≤ (BitVec.ofNat 8 _).toNat
      rw [hly]
      exact ⟨fun _ => by omega, fun _ => hmode⟩
  · obtain ⟨hbuf0, ⟨-, -, -, -⟩, -, hfb0⟩ := hdraw0
    have hlt : ¬ 144 ≤ s.ppu.ly.toNat := fun hge => by
      have := hiff.2 hge
      rw [h80.2] at this
      cases this
    refine ⟨hly153, by show 80 ≤ 455; decide, fun _ => ⟨fun hm => (by cases hm), fun hge => absurd hge hlt⟩,
      offAbsurd hlcdc.symm, ⟨hbuf0, ⟨Nat.zero_le _, Nat.zero_le _, ?_, Nat.zero_le _⟩, fun _ => ?_, hfb0⟩, hframe⟩
    · show s.ppu.scx.toNat % 8 ≤ 7
      omega
    · show 0 < 160
      decide
  · refine ⟨hly' ▸ hly153, ?_, fun _ => ?_, offAbsurd rfl, ⟨hbuf, hline, hleft, hfb⟩, hframe' ▸ hframe⟩
    · show s.ppu.dot + 1 ≤ 455
      omega
    · show p.mode = .vblank ↔ 144 ≤ p.ly.toNat
      rw [hly']
      exact hvblank.trans hiff

theorem ppuClock_lcdc (s : State) : (ppuClock s).ppu.lcdc = s.ppu.lcdc := by
  have hstate := transferClock_state s.mem s.spriteFetchClocks.val s.ppu
  have hlcdc : (transferClock s.mem s.spriteFetchClocks.val s.ppu).lcdc = s.ppu.lcdc := by rw [hstate]
  rw [ppuClock_eq, updateStatLine_ppu]
  split_ifs
  · exact hlcdc
  · exact hlcdc
  · exact hlcdc
  · rfl
  · exact hlcdc

theorem ppuClock_lcdOn (s : State) : (ppuClock s).ppu.lcdOn = s.ppu.lcdOn := by
  unfold Ppu.lcdOn
  rw [ppuClock_lcdc]

/-- Any number of PPU clocks with the LCD on keeps the invariant, and the LCD on. -/
theorem ppuCatchUp_ppuInv {s : State} (h : PpuInv s.ppu) (n : Nat) : PpuInv (ppuCatchUp n s).ppu := by
  unfold ppuCatchUp
  split
  case isTrue hlcd =>
    exact (repeatN_keeps ppuClock (fun t => PpuInv t.ppu ∧ t.ppu.lcdOn = true)
      (fun t ht => ⟨ppuClock_ppuInv ht.1 ht.2, (ppuClock_lcdOn t).trans ht.2⟩) n ⟨h, hlcd⟩).1
  case isFalse => exact h

end Sys2Proof.Machine
end

section
/-! The frame, VBlank and the LCD switch (spec 62 R387 to R393), and the invariant of reachable states (10 R41). -/

namespace Sys2Proof.Machine

/-! ## The frame (62 R387, R393) -/

/-- A PPU clock with the LCD on moves the clock within the frame by one, from the end of line 153 to its beginning. -/
theorem ppuClock_framePosition {s : State} (h : PpuInv s.ppu) :
    framePosition (ppuClock s).ppu = (framePosition s.ppu + 1) % 70224 := by
  obtain ⟨hly, hdot, -⟩ := h
  have hstate := transferClock_state s.mem s.spriteFetchClocks.val s.ppu
  have hly' : (transferClock s.mem s.spriteFetchClocks.val s.ppu).ly = s.ppu.ly := by rw [hstate]
  have hnext := nextLy_toNat s.ppu.ly
  have h144' : (144 : Byte).toNat = 144 := rfl
  rw [ppuClock_eq, updateStatLine_ppu]
  unfold framePosition
  split_ifs with h456 h144 hvis h80 <;> simp only [search_eq, hnext, hly', h144'] <;> omega

/-- Settles O52: clock by clock, the invariant being kept. -/
theorem frameTakes70224Clocks : Obligations.FrameTakes70224Clocks := by
  unfold Obligations.FrameTakes70224Clocks
  intro n s h hlcd
  unfold ppuCatchUp
  rw [if_pos hlcd]
  have key : PpuInv (repeatN ppuClock n s).ppu ∧ (repeatN ppuClock n s).ppu.lcdOn = true
      ∧ framePosition (repeatN ppuClock n s).ppu = (framePosition s.ppu + n) % 70224 := by
    induction n with
    | zero =>
      have hlt : framePosition s.ppu < 70224 := by
        obtain ⟨hly, hdot, -⟩ := h
        unfold framePosition
        omega
      exact ⟨h, hlcd, (Nat.mod_eq_of_lt hlt).symm⟩
    | succ n ih =>
      obtain ⟨hinv, hon, hpos⟩ := ih
      rw [repeatN_succ']
      refine ⟨ppuClock_ppuInv hinv hon, (ppuClock_lcdOn _).trans hon, ?_⟩
      rw [ppuClock_framePosition hinv, hpos]
      omega
  exact ⟨key.2.2, key.2.1⟩

/-! ## VBlank (62 R392) -/

/-- On the clock on which line 144 begins: the request, mode 1, and the frame handed over. -/
theorem ppuClock_vblank {s : State} (hly : s.ppu.ly = 143) (hdot : s.ppu.dot = 455) :
    (ppuClock s).ifr.getLsbD 0 = true ∧ (ppuClock s).ppu.frames = s.ppu.frames + 1
    ∧ (ppuClock s).ppu.mode = .vblank ∧ (ppuClock s).ppu.ly = 144 ∧ (ppuClock s).ppu.frame = (ppuClock s).ppu.fb := by
  have h144 : (s.ppu.ly.toNat + 1) % 154 = 144 := by rw [hly]; rfl
  have h456 : s.ppu.dot + 1 = 456 := by rw [hdot]
  rw [ppuClock_eq, if_pos h456, if_pos h144, updateStatLine_ifr_getLsbD]
  refine ⟨?_, rfl, rfl, rfl, rfl⟩
  simp

/-- On every other clock there is no VBlank request, no frame is handed over, and mode 1 does not begin. -/
theorem ppuClock_no_vblank {s : State} (h : PpuInv s.ppu) (hno : ¬ (s.ppu.ly = 143 ∧ s.ppu.dot = 455)) :
    (ppuClock s).ifr.getLsbD 0 = s.ifr.getLsbD 0 ∧ (ppuClock s).ppu.frames = s.ppu.frames
    ∧ (ppuClock s).ppu.frame = s.ppu.frame ∧ ((ppuClock s).ppu.mode = .vblank → s.ppu.mode = .vblank) := by
  obtain ⟨hly, -⟩ := h
  have hstate := transferClock_state s.mem s.spriteFetchClocks.val s.ppu
  have hframes : (transferClock s.mem s.spriteFetchClocks.val s.ppu).frames = s.ppu.frames := by rw [hstate]
  have hframe : (transferClock s.mem s.spriteFetchClocks.val s.ppu).frame = s.ppu.frame := by rw [hstate]
  have hmode := (transferClock_mode (m := .vblank) (by decide) (by decide) s.mem s.spriteFetchClocks.val s.ppu).1
  rw [ppuClock_eq, updateStatLine_ifr_getLsbD, updateStatLine_ppu, show decide (0 = 1) = false from rfl,
    Bool.false_and, Bool.or_false]
  split_ifs with h456 h144 hvis h80
  · refine absurd ⟨BitVec.eq_of_toNat_eq ?_, by omega⟩ hno
    rw [show (143 : Byte).toNat = 143 from rfl]
    omega
  · exact ⟨rfl, hframes, hframe, fun hm => (by cases hm)⟩
  · exact ⟨rfl, hframes, hframe, hmode⟩
  · exact ⟨rfl, rfl, rfl, fun hm => (by cases hm)⟩
  · exact ⟨rfl, hframes, hframe, hmode⟩

/-- Settles O53: the cases of one PPU clock, and among them the only one that enters VBlank. -/
theorem vBlankOnceAtLine144 : Obligations.VBlankOnceAtLine144 := by
  unfold Obligations.VBlankOnceAtLine144
  refine ⟨fun s h _ => ?_, ppuClock_eq, fun n s hlcd => if_pos hlcd⟩
  intro t enters
  by_cases henters : s.ppu.ly = 143 ∧ s.ppu.dot = 455
  · obtain ⟨hifr, hframes, hmode, hly, hframe⟩ := ppuClock_vblank henters.1 henters.2
    have he : enters = true := decide_eq_true henters
    rw [he, if_pos rfl, if_pos rfl, Bool.or_true]
    exact ⟨hifr, hframes, hmode, hly, hframe⟩
  · obtain ⟨hifr, hframes, hframe, hmode⟩ := ppuClock_no_vblank h henters
    have he : enters = false := decide_eq_false henters
    rw [he, if_neg Bool.false_ne_true, if_neg Bool.false_ne_true, Bool.or_false]
    exact ⟨hifr, hframes, hframe, hmode⟩

/-! ## The LCD switch (62 R390) -/

/-- A write to LCDC by the change of its bit 7 (62 R390). -/
theorem writeLcdc_eq (v : Byte) (s : State) :
    let p := { s.ppu with lcdc := v }
    writeLcdc v s =
      if s.ppu.lcdOn = true ∧ v.getLsbD 7 = false then
        { s with ppu := { p with ly := 0, dot := 0, mode := .hblank, statLine := false } }
      else if s.ppu.lcdOn = false ∧ v.getLsbD 7 = true then
        updateStatLine { s with ppu := Ppu.search s.mem { p with ly := 0, dot := 0, mode := .oamSearch } }
      else { s with ppu := p } := by
  unfold writeLcdc
  simp only [Bool.and_eq_true, Bool.not_eq_true', show Ppu.lcdOn { s.ppu with lcdc := v } = v.getLsbD 7 from rfl]
  rfl

/-- Settles O55: the write by the change of bit 7; a catch-up with the LCD off is nothing. -/
theorem lcdSwitchesOffAndOn : Obligations.LcdSwitchesOffAndOn := by
  unfold Obligations.LcdSwitchesOffAndOn
  intro v s
  refine ⟨writeLcdc_eq v s, fun hoff n => if_neg ?_⟩
  rw [Ppu.lcdOn, hoff]
  decide

/-! ## What an I/O write keeps (10 R41) -/

/-- The invariant of everything but the CPU. -/
def DeviceInv (s : State) : Prop := TimerInv s.timer ∧ PpuInv s.ppu ∧ StorageInv s ∧ s.dmaBusy ≤ 640

/-- A write to LCDC keeps the invariant of the PPU: off it rests at line 0 in mode 0, on it begins a frame. -/
theorem writeLcdc_ppuInv {s : State} (h : PpuInv s.ppu) (v : Byte) : PpuInv (writeLcdc v s).ppu := by
  obtain ⟨⟨hly, hdot, hon, hoff, hdraw, hframe⟩, hstat⟩ := (ppuInv_iff _).1 h
  obtain ⟨hbuf, hline, hleft, hfb⟩ := id hdraw
  have hlcd : Ppu.lcdOn { s.ppu with lcdc := v } = v.getLsbD 7 := rfl
  rw [writeLcdc_eq]
  split_ifs with h1 h2
  · refine (ppuInv_iff _).2 ⟨⟨Nat.zero_le _, Nat.zero_le _, fun hv => ?_, fun _ => ⟨rfl, rfl, rfl⟩,
      ⟨hbuf, hline, fun hm => (by cases hm), hfb⟩, hframe⟩, ?_⟩
    · exact absurd (hv.symm.trans h1.2) (by decide)
    · show false = (v.getLsbD 7 && _)
      rw [h1.2, Bool.false_and]
  · refine updateStatLine_ppuInv (PpuBounds.search (p := { s.ppu with
      lcdc := v, ly := 0, dot := 0, mode := .oamSearch }) ⟨Nat.zero_le _, Nat.zero_le _, fun _ => ?_, fun hv => ?_,
      ⟨hbuf, hline, fun hm => (by cases hm), hfb⟩, hframe⟩ s.mem)
    · exact ⟨fun hm => (by cases hm), fun hge => absurd hge (by show ¬ 144 ≤ 0; decide)⟩
    · exact absurd (hv.symm.trans h2.2) (by decide)
  · -- bit 7 does not change
    have hsame : v.getLsbD 7 = s.ppu.lcdOn := by
      cases hv : v.getLsbD 7 <;> cases hs : s.ppu.lcdOn <;> simp_all
    have hlevel : Ppu.statLevel { s.ppu with lcdc := v } = s.ppu.statLevel := by
      unfold Ppu.statLevel
      rw [hlcd, hsame]
    exact (ppuInv_iff _).2 ⟨⟨hly, hdot, fun hv => hon (hsame ▸ hv), fun hv => hoff (hsame ▸ hv), hdraw, hframe⟩,
      hstat.trans hlevel.symm⟩

/-- A write to an I/O address keeps the invariant of the timer, the PPU and the DMA count. -/
theorem ioWrite_deviceInv {s : State} (ht : TimerInv s.timer) (hp : PpuInv s.ppu) (hd : s.dmaBusy ≤ 640) (a : Word)
    (v : Byte) : TimerInv (ioWrite a v s).timer ∧ PpuInv (ioWrite a v s).ppu ∧ (ioWrite a v s).dmaBusy ≤ 640 := by
  have hbounds := ((ppuInv_iff _).1 hp).1
  have hlcdc : (writeLcdc v s).timer = s.timer ∧ (writeLcdc v s).dmaBusy = s.dmaBusy := by
    rw [writeLcdc_eq]
    split_ifs <;> exact ⟨rfl, rfl⟩
  unfold ioWrite
  split
  case h_1 => exact ⟨rfl, hp, hd⟩
  case h_6 => exact ⟨hlcdc.1 ▸ ht, writeLcdc_ppuInv hp v, hlcdc.2 ▸ hd⟩
  case h_7 | h_10 => exact ⟨ht, updateStatLine_ppuInv hbounds, hd⟩
  case h_11 =>
    rw [dmaWrite_state]
    exact ⟨ht, hp, le_rfl⟩
  case h_17 => split <;> exact ⟨ht, hp, hd⟩
  all_goals exact ⟨ht, hp, hd⟩

/-! ## What a bus write keeps -/

/-- Every cell of memory is a storage address (20 R60). -/
def StoredKeys (s : State) : Prop := ∀ x ∈ s.mem, storageKey x.1

theorem StoredKeys.write {s : State} (h : StoredKeys s) {k : Nat} (hk : storageKey k) (v : Byte) :
    ∀ x ∈ s.mem.write k v, storageKey x.1 := by
  intro x hx
  rcases Memory.mem_write hx with rfl | hx
  · exact hk
  · exact h x hx

/-- The home of an address of a row that keeps bytes in `mem` is a storage address (20 R60, R62). -/
theorem storageKey_homeKey {a : Word} (hio : regionOf a ≠ .io) (hie : regionOf a ≠ .ie)
    (hun : regionOf a ≠ .unmapped) : storageKey (homeKey a) := by
  have hbounds := regionOf_bounds a
  cases hr : regionOf a
  case mirror =>
    rw [homeKey_of_mirror hr]
    simp only [hr, Region.first, Region.last] at hbounds
    exact .inl (by omega)
  case io => exact absurd hr hio
  case ie => exact absurd hr hie
  case unmapped => exact absurd hr hun
  all_goals
    rw [homeKey_of_ne_mirror (by rw [hr]; decide)]
    simp only [hr, Region.first, Region.last] at hbounds
    unfold storageKey
    omega

theorem foldl_dmaCopyByte_storedKeys (v : Byte) {is : List Nat} (his : ∀ i ∈ is, i < 160) {s : State}
    (h : StoredKeys s) : StoredKeys (is.foldl (dmaCopyByte v) s) := by
  induction is generalizing s with
  | nil => exact h
  | cons i is ih =>
    have hi := his i (List.mem_cons_self ..)
    refine ih (fun j hj => his j (List.mem_cons_of_mem _ hj)) ?_
    have hraw : StoredKeys (rawRead (join v 0x00 + BitVec.ofNat 16 i) s).2 := by
      rw [StoredKeys, rawRead_mem]
      exact h
    exact hraw.write (.inr (.inl ⟨Nat.le_add_right .., by omega⟩)) _

theorem ioWrite_storedKeys {s : State} (h : StoredKeys s) (a : Word) (v : Byte) : StoredKeys (ioWrite a v s) := by
  by_cases ha : a = 0xFF46
  · rw [ha, ioWrite_dma]
    have hcopy := foldl_dmaCopyByte_storedKeys v (is := List.range 160) (fun i hi => List.mem_range.1 hi)
      (s := { s with dma := v }) h
    unfold dmaWrite
    generalize (List.range 160).foldl (dmaCopyByte v) { s with dma := v } = u at hcopy ⊢
    exact hcopy
  · rw [StoredKeys, ioWrite_mem ha]
    exact h

theorem busWrite_storedKeys {s : State} (h : StoredKeys s) (a : Word) (v : Byte) : StoredKeys (busWrite a v s) := by
  have store (hio : regionOf a ≠ .io) (hie : regionOf a ≠ .ie) (hun : regionOf a ≠ .unmapped) :
      StoredKeys (storeByte a v s) := h.write (storageKey_homeKey hio hie hun) v
  unfold busWrite
  split
  · exact h
  · cases hr : regionOf a
    case rom | unmapped | ie => exact h
    case io => exact ioWrite_storedKeys h a v
    case cartRam =>
      simp only
      split
      · exact store (by rw [hr]; decide) (by rw [hr]; decide) (by rw [hr]; decide)
      · exact h
    all_goals exact store (by rw [hr]; decide) (by rw [hr]; decide) (by rw [hr]; decide)

/-- A bus write keeps the invariant of everything but the CPU. -/
theorem DeviceInv.busWrite {s : State} (h : DeviceInv s) (a : Word) (v : Byte) : DeviceInv (busWrite a v s) := by
  obtain ⟨ht, hp, ⟨hwf, hkeys, hboot, hbootKeys⟩, hd⟩ := h
  have hdev : TimerInv (Machine.busWrite a v s).timer ∧ PpuInv (Machine.busWrite a v s).ppu
      ∧ (Machine.busWrite a v s).dmaBusy ≤ 640 := by
    by_cases hio : regionOf a = .io
    · have hgated : gated s a = false := by simp only [gated, hio]
      have hdef : Machine.busWrite a v s = ioWrite a v s := by
        simp only [Machine.busWrite, hgated, hio, Bool.false_eq_true, if_false]
      rw [hdef]
      exact ioWrite_deviceInv ht hp hd a v
    · rw [busWrite_of_not_io hio]
      exact ⟨ht, hp, hd⟩
  have hrom : (Machine.busWrite a v s).bootRom = s.bootRom := by rw [busWrite_state]
  refine ⟨hdev.1, hdev.2.1, ⟨busWrite_wf hwf a v, busWrite_storedKeys hkeys a v, ?_, ?_⟩, hdev.2.2⟩
  · rw [hrom]
    exact hboot
  · rw [hrom]
    exact hbootKeys

/-! ## What the devices' clocks keep -/

/-- IC stays a multiple of 4. -/
theorem Timer.reload_count_inv {t : Timer} (h : TimerInv t) : TimerInv t.reload.count := by
  have hic : t.reload.ic = t.ic := by
    unfold Timer.reload
    split <;> rfl
  have hcount : t.reload.count.ic = t.reload.ic + 4 := by
    unfold Timer.count
    simp only
    split <;> rfl
  have hstep : ∀ w : Word, w.extractLsb' 0 2 = 0 → (w + 4).extractLsb' 0 2 = 0 := by
    intro w hw
    have hmod : w.toNat % 4 = 0 := by simpa using congrArg BitVec.toNat hw
    apply BitVec.eq_of_toNat_eq
    simp
    omega
  unfold TimerInv at h ⊢
  rw [hcount, hic]
  exact hstep _ h

theorem timerTick_timerInv {s : State} (h : TimerInv s.timer) (n : Nat) : TimerInv (timerTick n s).timer := by
  rw [timerTick_timer]
  exact repeatN_keeps _ TimerInv (fun _ ht => Timer.reload_count_inv ht) _ h

/-- The hand-off keeps the invariant of everything but the CPU. -/
theorem DeviceInv.handOff {s : State} (h : DeviceInv s) : DeviceInv (handOff s) := by
  obtain ⟨ht, hp, hs, hd⟩ := h
  have hppu : PpuInv (Machine.handOff s).ppu := by
    refine ppuCatchUp_ppuInv (s := timerTick s.clocks s) ?_ s.clocks
    rw [timerTick_state]
    exact hp
  rw [handOff_state]
  exact ⟨timerTick_timerInv ht _, hppu, hs, (Nat.sub_le ..).trans hd⟩

/-! ## What the CPU keeps -/

/-- An instruction executed from a running state without the HALT bug keeps the CPU's invariant. -/
theorem exec_cpuInv {i : Instr} {s t : State} (h : exec i s = .next t) (hf : s.regs.f.extractLsb' 0 4 = 0)
    (hhalt : s.halt = false) (hbug : s.haltBug = false) : CpuInv t := by
  have of_effect {k : Nat} {u : State} (heff : Effect k s u) : CpuInv u :=
    ⟨heff.flags hf, fun hu => by rw [heff.halt, hhalt] at hu; cases hu.1⟩
  have hs : CpuInv s := of_effect (Effect.refl s)
  rcases effect_of_completes (exec_completes h) with
    ⟨n, -, heff⟩ | ⟨-, n, -, heff⟩ | ⟨-, rfl⟩ | ⟨-, rfl⟩ | ⟨-, rfl⟩ | ⟨-, rfl⟩
  · exact of_effect heff
  · exact of_effect heff
  · exact hs
  · exact hs
  · exact of_effect (u := returnFromCall s) (Effect.returnFromCall s)
  · unfold haltCpu
    split
    · exact ⟨hf, fun hu => by rw [hbug] at hu; cases hu.2⟩
    · exact ⟨hf, fun hu => by rw [hhalt] at hu; cases hu.1⟩

/-- The end of a Step keeps the CPU's invariant: dispatch can only end a halt. -/
theorem endStep_cpuInv {s : State} (h : CpuInv s) (b : Bool) : CpuInv (endStep b s) := by
  have hdispatch : CpuInv (interruptDispatch b s) := by
    rcases interruptDispatch_cases b s with hd | hd | ⟨-, -, hd⟩ <;> rw [hd]
    · exact h
    · exact ⟨h.1, fun hu => by cases hu.1⟩
    · have hregs : (takeInterrupt (lowestPending (pendingInterrupts s)) { s with halt := false }).regs = s.regs := by
        rw [takeInterrupt_eq]
        exact (busWrite_regs ..).trans (busWrite_regs ..)
      refine ⟨by rw [hregs]; exact h.1, fun hu => ?_⟩
      rw [takeInterrupt_halt] at hu
      cases hu.1
  unfold endStep
  rw [handOff_state]
  exact hdispatch

/-- Settles O60: the CPU's part by the effects of the instructions and of dispatch, the rest by what bus writes and the
devices' clocks keep. -/
theorem invariantKeptByEveryStep : Obligations.InvariantKeptByEveryStep := by
  unfold Obligations.InvariantKeptByEveryStep
  intro s t ⟨hcpu, hdev⟩ h
  have hcpu' : CpuInv t := by
    rcases step_next h with ⟨-, rfl⟩ | ⟨hrun, u, hexec, rfl⟩
    · exact endStep_cpuInv (s := { s with clocks := 4 }) hcpu _
    · refine endStep_cpuInv (exec_cpuInv hexec ?_ ?_ ?_) _ <;> rw [(fetchInstr_eq (beginStep s)).2]
      · exact hcpu.1
      · exact hrun
  have hdev' : DeviceInv t := step_keeps (P := DeviceInv) (fun _ _ h => h) (fun _ _ h => h) (fun _ _ h => h)
    (fun _ a v h => h.busWrite a v) (fun _ h => h.handOff) h hdev
  exact ⟨hcpu', hdev'⟩

/-! ## Reset and the direct launch (10 R44, R45) -/

/-- Masking IC keeps its bits 15 to 2. -/
theorem masked_ic (w : Word) : (∀ j < 16, (w &&& 0xFFFC).getLsbD j = (decide (2 ≤ j) && w.getLsbD j))
    ∧ (w &&& 0xFFFC).extractLsb' 0 2 = 0 := by
  have hbits : ∀ j < 16, (w &&& 0xFFFC).getLsbD j = (decide (2 ≤ j) && w.getLsbD j) := by
    intro j hj
    rw [BitVec.getLsbD_and, Bool.and_comm]
    congr 1
    interval_cases j <;> rfl
  refine ⟨hbits, BitVec.eq_of_getLsbD_eq fun j hj => ?_⟩
  rw [BitVec.getLsbD_extractLsb', Nat.zero_add, hbits j (by omega)]
  simp
  omega

/-- Masking F keeps its bits 7 to 4 (10 R15). -/
theorem masked_f (v : Byte) {j : Nat} (hj : j < 8) :
    (v &&& 0xF0).getLsbD j = (decide (4 ≤ j) && v.getLsbD j) := by
  rw [BitVec.getLsbD_and, Bool.and_comm]
  congr 1
  interval_cases j <;> rfl

/-- The launch state of profile direct has the invariant where the parameters' storage and frames are canonical
(10 R45, R41). -/
theorem directState_inv {entryPc : Word} {params : State} (hlaunch : params.ppu.launchable) (hs : StorageInv params)
    (hfb : FrameInv params.ppu.fb) (hframe : FrameInv params.ppu.frame) (hstall : params.ppu.line.stall ≤ 160)
    (hdot0 : params.ppu.lcdOn = false → params.ppu.dot = 0) : Inv (directState entryPc params) := by
  obtain ⟨hly, hdot, hbuf, hfifo, hlx, hdiscard, hon, hoff, hleft⟩ := hlaunch
  refine ⟨⟨masked_low _, fun hu => by cases hu.1⟩, (masked_ic _).2, ?_, hs, Nat.zero_le _⟩
  exact (ppuInv_iff _).2 ⟨⟨hly, hdot, hon, fun h => ⟨(hoff h).1, hdot0 h, (hoff h).2⟩,
    ⟨hbuf, ⟨hfifo, hlx, hdiscard, hstall⟩, hleft, hfb⟩, hframe⟩, rfl⟩

/-- Settles O59: reset by evaluation; profile direct launches from a launchable PPU state, into its launch state. -/
theorem invariantAtReset : Obligations.InvariantAtReset := by
  unfold Obligations.InvariantAtReset
  refine ⟨by decide, fun entryPc params => ⟨?_, fun s h => ?_⟩⟩
  · have hsome : launchDirect entryPc params ≠ none ↔ params.ppu.launchable := by
      rw [Option.ne_none_iff_exists']
      exact ⟨fun ⟨s, hs⟩ => (launchDirect_some.1 hs).1, fun hl => ⟨_, launchDirect_some.2 ⟨hl, rfl⟩⟩⟩
    rw [hsome]
    unfold Ppu.launchable Ppu.lcdOn
    tauto
  · obtain ⟨hlaunch, rfl⟩ := launchDirect_some.1 h
    exact ⟨rfl, fun j hj => masked_f _ hj, (masked_ic _).1, directState_inv hlaunch⟩

end Sys2Proof.Machine
end

section
/-! The system instructions, the loads and the stack (spec 48, 41, 42). -/

namespace Sys2Proof.Machine

/-! ## NOP, DI, EI, HALT (48 R300 to R304) -/

theorem haltCpu_eq (s : State) :
    haltCpu s = if s.ime = true ∨ pendingInterrupts s = 0 then { s with halt := true } else { s with haltBug := true } := by
  simp only [haltCpu, Bool.or_eq_true, beq_iff_eq]

/-- Settles O13: HALT's cases are whether IME is set and whether anything is pending. -/
theorem systemInstructionResults : Obligations.SystemInstructionResults := by
  unfold Obligations.SystemInstructionResults
  intro s
  have hhalt : exec .halt s = .next (haltCpu s) := rfl
  simp only [ne_eq, ← pendingInterrupts_eq_zero_iff, hhalt, haltCpu_eq]
  refine ⟨rfl, rfl, rfl, fun hime => ?_, fun _ hnone => ?_, fun hime hsome => ?_⟩
  · rw [if_pos (.inl hime)]
  · rw [if_pos (.inr hnone)]
  · rw [if_neg (fun h => h.elim (fun h' => by rw [hime] at h'; cases h') hsome)]

/-! ## Eight-bit loads (spec 41) -/

/-- Settles O16: a load writes one register. -/
theorem registerLoadResults : Obligations.RegisterLoadResults := by
  unfold Obligations.RegisterLoadResults
  exact fun dst src n s => ⟨exec_ldReg dst src s, exec_ldImm dst n s,
    fun g v r => ⟨Regs.get_set g dst r v, Regs.set_f g dst v⟩⟩

/-- Settles O17: a read at the form's address, into the register, and the step of HL. -/
theorem memoryLoadResults : Obligations.MemoryLoadResults := by
  unfold Obligations.MemoryLoadResults
  intro dst m s
  refine ⟨⟨_, exec_ldFromHl dst s, ?_⟩, ⟨_, exec_loadA m s, ?_⟩⟩
  · unfold ldRegHl
    rw [memRead_eq]
    rfl
  · unfold stepHl ldAFrom
    rw [memRead_eq]
    rfl

/-- The frame of a store with the registers and clocks that stand after it. -/
theorem StoreFrame_with_regs (a : Word) (v : Byte) (s : State) (g : Regs) (n : Nat) :
    StoreFrame [a] { s with regs := g } { busWrite a v s with regs := g, clocks := n } := by
  have h := StoreFrame_one a v { s with regs := g } n
  rwa [busWrite_with_regs] at h

/-- A store, then a step of HL: the store does not change what HL held. -/
theorem stepHl_memWrite (d a : Word) (v : Byte) (s : State) :
    stepHl d (memWrite a v s) = { busWrite a v s with
      regs := { s.regs with h := hiByte (getHl s + d), l := loByte (getHl s + d) }, clocks := s.clocks + 4 } := by
  have hregs := busWrite_regs a v s
  rw [memWrite_eq]
  unfold stepHl setHl getHl
  simp only [hregs]

/-- Settles O18: one router write, and the step of HL. -/
theorem memoryStoreResults : Obligations.MemoryStoreResults := by
  unfold Obligations.MemoryStoreResults
  intro src n m s
  refine ⟨⟨_, exec_ldToHl src s, memWrite_eq _ _ s, ?_⟩, ⟨_, rfl, memWrite_eq _ _ s, ?_⟩,
    ⟨_, exec_storeA m s, stepHl_memWrite .., ?_⟩⟩
  · rw [ldHlReg, memWrite_eq]
    exact StoreFrame_one _ _ s _
  · rw [memWrite_eq]
    exact StoreFrame_one _ _ s _
  · rw [ldAtA, stepHl_memWrite]
    exact StoreFrame_with_regs _ _ s _ _

/-! ## Sixteen-bit loads (42 R170 to R172) -/

theorem getR16_setR16 (p q : R16) (v : Word) (s : State) :
    getR16 q (setR16 p v s) = if q = p then v else getR16 q s := by
  cases p <;> cases q
  case bc.bc | de.de | hl.hl => exact join_hiByte_loByte v
  all_goals rfl

/-- Writing a pair or SP keeps A, F and everything outside the registers and SP. -/
theorem setR16_frame (p : R16) (v : Word) (s : State) :
    (setR16 p v s).regs.a = s.regs.a ∧ (setR16 p v s).regs.f = s.regs.f
      ∧ setR16 p v s = { s with regs := (setR16 p v s).regs, sp := (setR16 p v s).sp } := by
  cases p <;> exact ⟨rfl, rfl, rfl⟩

/-- Settles O19: a pair is written, or SP from HL. -/
theorem pairLoadResults : Obligations.PairLoadResults := by
  unfold Obligations.PairLoadResults
  intro p nn s
  obtain ⟨ha, hf, hframe⟩ := setR16_frame p nn s
  exact ⟨⟨_, exec_ldPair p nn s, fun q => getR16_setR16 p q nn s, ha, hf, hframe⟩, rfl⟩

/-! ## Two-byte stores (42 R171, R175) -/

/-- Two stores of a 16-bit value, low byte first, are two router writes and 8 clocks. -/
theorem memWrite16_eq (a v : Word) (s : State) :
    memWrite16 a v s = { busWrite (a + 1) (hiByte v) (busWrite a (loByte v) s) with clocks := s.clocks + 8 } := by
  have hfirst : memWrite a (loByte v) s = (busWrite a (loByte v) s).withCpu { s.cpu with clocks := s.clocks + 4 } := by
    rw [memWrite_eq, State.eq_withCpu (busWrite_cpu a (loByte v) s)]
    rfl
  have hcpu := State.eq_withCpu
    ((busWrite_cpu (a + 1) (hiByte v) (busWrite a (loByte v) s)).trans (busWrite_cpu a (loByte v) s))
  unfold memWrite16
  rw [hfirst, memWrite_eq, busWrite_withCpu]
  generalize busWrite (a + 1) (hiByte v) (busWrite a (loByte v) s) = u at hcpu ⊢
  rw [hcpu]
  rfl

theorem sp_sub_two (w : Word) : w - 1 - 1 = w - 2 := by
  rw [BitVec.sub_sub]
  rfl

/-- The router writes of a push keep the CPU but for SP. -/
theorem pushedState_cpu (v : Word) (s : State) : (pushedState v s).cpu = { s.cpu with sp := s.sp - 2 } :=
  congrArg (fun c : Cpu => { c with sp := s.sp - 2 }) ((busWrite_cpu ..).trans (busWrite_cpu ..))

/-- An internal delay and a push: the pushed state, 12 clocks. -/
theorem push16_internal (v : Word) (s : State) :
    push16 v (internal s) = { pushedState v s with clocks := s.clocks + 12 } := by
  have hcpu := State.eq_withCpu
    ((busWrite_cpu (s.sp - 2) (loByte v) (busWrite (s.sp - 1) (hiByte v) s)).trans (busWrite_cpu ..))
  have hpush : push16 v (internal s) =
      (busWrite (s.sp - 1 - 1) (loByte v) (busWrite (s.sp - 1) (hiByte v) s)).withCpu
        { s.cpu with sp := s.sp - 1 - 1, clocks := s.clocks + 4 + 8 } :=
    push16_withCpu v { s.cpu with clocks := s.clocks + 4 } s
  rw [hpush, sp_sub_two]
  unfold pushedState
  generalize busWrite (s.sp - 2) (loByte v) (busWrite (s.sp - 1) (hiByte v) s) = u at hcpu ⊢
  rw [hcpu]
  rfl

/-- The frame of a push that leaves PC. -/
theorem StoreFrame_push (v : Word) (s : State) (clocks : Nat) :
    StoreFrame [s.sp - 1, s.sp - 2] { s with sp := s.sp - 2 } { pushedState v s with clocks := clocks } := by
  have hpc : (pushedState v s).pc = s.pc := congrArg Cpu.pc (pushedState_cpu v s)
  have h := StoreFrame_pushedState v s.pc s clocks
  rw [← hpc] at h
  have hs : ({ s with pc := (pushedState v s).pc, sp := s.sp - 2 } : State) = { s with sp := s.sp - 2 } := by rw [hpc]
  rwa [hs] at h

/-- Settles O20: two router writes each. -/
theorem twoByteStoreResults : Obligations.TwoByteStoreResults := by
  unfold Obligations.TwoByteStoreResults
  intro nn p s
  refine ⟨⟨_, rfl, memWrite16_eq nn s.sp s, ?_⟩, ⟨_, exec_push p s, push16_internal _ s, ?_⟩⟩
  · rw [memWrite16_eq]
    exact StoreFrame_trans (as := [nn]) (StoreFrame_one nn (loByte s.sp) s (busWrite nn (loByte s.sp) s).clocks)
      (StoreFrame_one (nn + 1) (hiByte s.sp) (busWrite nn (loByte s.sp) s) _)
  · rw [pushPair, push16_internal]
    exact StoreFrame_push _ s _

/-! ## POP (42 R176) -/

/-- POP AF drops bits 3..0 of the low byte (10 R15). -/
theorem join_masked (v : Word) : join (hiByte v) (loByte v &&& 0xF0) = v &&& 0xFFF0 := by
  have h := BitVec.and_append (x₁ := hiByte v) (x₂ := 0xFF#8) (y₁ := loByte v) (y₂ := 0xF0#8)
  have hv : hiByte v ++ loByte v = v := join_hiByte_loByte v
  have hhi : hiByte v &&& 0xFF#8 = hiByte v := BitVec.and_allOnes
  rw [hv, hhi] at h
  exact h.symm

theorem getR16Stack_setR16Stack (p q : R16Stack) (v : Word) (s : State) :
    getR16Stack q (setR16Stack p v s) = if q = p then (if p = .af then v &&& 0xFFF0 else v) else getR16Stack q s := by
  cases p <;> cases q
  case bc.bc | de.de | hl.hl => exact join_hiByte_loByte v
  case af.af => exact join_masked v
  all_goals rfl

theorem setR16Stack_regsOnly (p : R16Stack) (v : Word) (s : State) :
    setR16Stack p v s = { s with regs := (setR16Stack p v s).regs } := by
  cases p <;> rfl

theorem sp_add_two (w : Word) : w + 1 + 1 = w + 2 := BitVec.add_assoc w 1 1

/-- `Pop16` as a whole: the value on the stack, SP two higher, 8 clocks. -/
theorem pop16_stackTop (s : State) :
    ∃ drawn, pop16 s = (stackTop s, { s with sp := s.sp + 2, clocks := s.clocks + 8, draws := drawn }) := by
  refine ⟨(busRead (s.sp + 1) (busRead s.sp s).2).2.draws, ?_⟩
  rw [pop16_eq, sp_add_two]
  rfl

/-- Settles O21: the value on the stack, written to the pair. -/
theorem popResults : Obligations.PopResults := by
  unfold Obligations.PopResults
  intro p s
  obtain ⟨drawn, hpop⟩ := pop16_stackTop s
  refine ⟨_, exec_pop p s, ?_⟩
  have hframe := setR16Stack_regsOnly p (stackTop s)
    { s with sp := s.sp + 2, clocks := s.clocks + 8, draws := drawn }
  have hget (q : R16Stack) := getR16Stack_setR16Stack p q (stackTop s)
    { s with sp := s.sp + 2, clocks := s.clocks + 8, draws := drawn }
  rw [popPair, hpop]
  unfold RegsOnly
  simp only
  generalize setR16Stack p (stackTop s) { s with sp := s.sp + 2, clocks := s.clocks + 8, draws := drawn } = t
    at hframe hget ⊢
  refine ⟨fun q => (hget q).trans ?_, by rw [hframe], by rw [hframe], by rw [hframe]⟩
  cases q <;> rfl

/-! ## PUSH then POP (42 R176) -/

/-- A row that keeps CPU writes as bytes of `mem` (20 R60, R62). -/
theorem regionOf_of_storesByte {s : State} {a : Word} (h : storesByte s a = true) :
    gated s a = false ∧ (regionOf a = .cartRam → s.cartRamPresent = true)
      ∧ regionOf a ∈ [Region.vram, .cartRam, .wram, .mirror, .oam, .hram] := by
  unfold storesByte at h
  rw [Bool.and_eq_true, Bool.not_eq_true'] at h
  obtain ⟨hgated, hrow⟩ := h
  refine ⟨hgated, ?_, ?_⟩ <;> revert hrow <;> cases regionOf a <;> simp

theorem busWrite_of_storesByte {s : State} {a : Word} (h : storesByte s a = true) (v : Byte) :
    busWrite a v s = storeByte a v s := by
  obtain ⟨hgated, hcart, hrow⟩ := regionOf_of_storesByte h
  unfold busWrite
  rw [hgated]
  cases hr : regionOf a <;> rw [hr] at hrow hcart <;> simp [hcart] at hrow ⊢

theorem busRead_of_storesByte {s : State} {a : Word} (h : storesByte s a = true) :
    busRead a s = (s.mem.read (homeKey a), s) := by
  obtain ⟨hgated, hcart, hrow⟩ := regionOf_of_storesByte h
  unfold busRead rawRead
  rw [hgated]
  cases hr : regionOf a <;> rw [hr] at hrow hcart <;> simp [hcart] at hrow ⊢

/-- The two bytes of the stack have different homes: no address shares its home with the one below it. -/
theorem homeKey_ne_below {s : State} {a b : Word} (ha : storesByte s a = true) (hab : b = a - 1) :
    homeKey b ≠ homeKey a := by
  have hrowa := (regionOf_of_storesByte ha).2.2
  have hba := regionOf_bounds a
  have hbb := regionOf_bounds b
  have hlow : 0x8000 ≤ a.toNat := by
    refine le_trans ?_ hba.1
    revert hrowa
    cases regionOf a <;> simp [Region.first]
  have hsub : b.toNat = a.toNat - 1 := by
    rw [hab]
    exact BitVec.toNat_sub_of_le (BitVec.le_def.2 (le_trans (by decide) hlow))
  by_cases hma : regionOf a = .mirror
  · rw [homeKey_of_mirror hma]
    simp only [hma, Region.first, Region.last] at hba
    by_cases hmb : regionOf b = .mirror
    · rw [homeKey_of_mirror hmb]
      simp only [hmb, Region.first, Region.last] at hbb
      omega
    · rw [homeKey_of_ne_mirror hmb]
      omega
  · rw [homeKey_of_ne_mirror hma]
    by_cases hmb : regionOf b = .mirror
    · rw [homeKey_of_mirror hmb]
      simp only [hmb, Region.first, Region.last] at hbb
      omega
    · rw [homeKey_of_ne_mirror hmb]
      omega

/-- A pair written with what it holds changes nothing, if bits 3..0 of F are 0. -/
theorem setR16Stack_get {s : State} (hf : s.regs.f.extractLsb' 0 4 = 0) (p : R16Stack) :
    setR16Stack p (getR16Stack p s) s = s := by
  have hmask : ∀ f : Byte, f.extractLsb' 0 4 = 0 → f &&& 0xF0 = f := by decide
  cases p
  case af =>
    show ({ s with regs := { s.regs with a := hiByte (getAf s), f := loByte (getAf s) &&& 0xF0 } } : State) = s
    rw [getAf, hiByte_join, loByte_join, hmask _ hf]
  case bc =>
    show ({ s with regs := { s.regs with b := hiByte (getBc s), c := loByte (getBc s) } } : State) = s
    rw [getBc, hiByte_join, loByte_join]
  case de =>
    show ({ s with regs := { s.regs with d := hiByte (getDe s), e := loByte (getDe s) } } : State) = s
    rw [getDe, hiByte_join, loByte_join]
  case hl =>
    show ({ s with regs := { s.regs with h := hiByte (getHl s), l := loByte (getHl s) } } : State) = s
    rw [getHl, hiByte_join, loByte_join]

/-- The memory after a push whose two bytes are plain memory. -/
def pushedMem (v : Word) (s : State) : Memory :=
  (s.mem.write (homeKey (s.sp - 1)) (hiByte v)).write (homeKey (s.sp - 2)) (loByte v)

/-- Where both stack bytes are plain memory, a push is two bytes of memory, SP and the clocks. -/
theorem pushPair_of_storesByte {s : State} (h1 : storesByte s (s.sp - 1) = true) (h2 : storesByte s (s.sp - 2) = true)
    (p : R16Stack) :
    pushPair p s = { s with mem := pushedMem (getR16Stack p s) s, sp := s.sp - 2, clocks := s.clocks + 12 } := by
  rw [pushPair, push16_internal]
  unfold pushedState
  rw [busWrite_of_storesByte h1, busWrite_of_storesByte (s := storeByte _ _ s) h2]
  rfl

/-- The two bytes of a push read back, and every other byte is kept. -/
theorem pushedMem_read {s : State} (hm : s.mem.wf) (h1 : storesByte s (s.sp - 1) = true) (v : Word) :
    (pushedMem v s).read (homeKey (s.sp - 1)) = hiByte v ∧ (pushedMem v s).read (homeKey (s.sp - 2)) = loByte v
      ∧ ∀ k, k ≠ homeKey (s.sp - 1) → k ≠ homeKey (s.sp - 2) → (pushedMem v s).read k = s.mem.read k := by
  have hne := homeKey_ne_below h1 (sp_sub_two s.sp).symm
  unfold pushedMem
  refine ⟨?_, Memory.read_write_same (Memory.wf_write hm _ _) _ _, fun k hk1 hk2 => ?_⟩
  · rw [Memory.read_write_of_ne _ _ hne.symm, Memory.read_write_same hm]
  · rw [Memory.read_write_of_ne _ _ hk2, Memory.read_write_of_ne _ _ hk1]

/-- A pop from a state whose two stack bytes are plain memory. -/
theorem popPair_of_storesByte {s : State} {lo hi : Byte} (h1 : storesByte s s.sp = true)
    (h2 : storesByte s (s.sp + 1) = true) (hlo : s.mem.read (homeKey s.sp) = lo)
    (hhi : s.mem.read (homeKey (s.sp + 1)) = hi) (p : R16Stack) :
    popPair p s = setR16Stack p (join hi lo) { s with sp := s.sp + 2, clocks := s.clocks + 8 } := by
  rw [popPair, pop16_eq, busRead_of_storesByte h1, busRead_of_storesByte h2, hlo, hhi, sp_add_two]

/-- Settles O22: the push stores the pair in two bytes with homes of their own, which the pop reads back. -/
theorem pushThenPopRestores : Obligations.PushThenPopRestores := by
  unfold Obligations.PushThenPopRestores
  intro p s hf hm h1 h2
  obtain ⟨hhi, hlo, hother⟩ := pushedMem_read hm h1 (getR16Stack p s)
  have hone : s.sp - 2 + 1 = s.sp - 1 := by rw [← sp_sub_two, BitVec.sub_add_cancel]
  have htwo : s.sp - 2 + 2 = s.sp := BitVec.sub_add_cancel _ _
  let t : State := { s with mem := pushedMem (getR16Stack p s) s, sp := s.sp - 2, clocks := s.clocks + 12 }
  have hpush : pushPair p s = t := pushPair_of_storesByte h1 h2 p
  refine ⟨t, _, (exec_push p s).trans (congrArg _ hpush), exec_pop p t, ?_, hother⟩
  have hstored : storesByte t (s.sp - 2 + 1) = true := by rw [hone]; exact h1
  have hread : t.mem.read (homeKey (s.sp - 2 + 1)) = hiByte (getR16Stack p s) := by rw [hone]; exact hhi
  rw [popPair_of_storesByte (s := t) h2 hstored hlo hread, join_hiByte_loByte]
  have hrestored : ({ t with sp := t.sp + 2, clocks := t.clocks + 8 } : State)
      = { s with mem := t.mem, clocks := s.clocks + 20 } := by
    show ({ t with sp := s.sp - 2 + 2, clocks := s.clocks + 12 + 8 } : State) = _
    rw [htwo]
  rw [hrestored]
  have hpair : getR16Stack p s = getR16Stack p { s with mem := t.mem, clocks := s.clocks + 20 } := by cases p <;> rfl
  rw [hpair]
  exact setR16Stack_get (s := { s with mem := t.mem, clocks := s.clocks + 20 }) hf p

end Sys2Proof.Machine
end

section
/-! INC and DEC, 16-bit arithmetic, accumulator rotates, DAA, CPL, SCF and CCF in plain arithmetic (spec 43 R217 to R220, 44,
45). -/

namespace Sys2Proof.Machine

/-! ## INC and DEC (43 R217 to R220) -/

theorem inc8_toNat (v : Byte) (c : Bool) : (inc8 v c).1.toNat = (v.toNat + 1) % 256 := BitVec.toNat_add v 1

theorem dec8_toNat (v : Byte) (c : Bool) : (dec8 v c).1.toNat = (v.toNat + 255) % 256 := by
  show (v - 1).toNat = _
  rw [BitVec.toNat_sub, show (1 : Byte).toNat = 1 from rfl]
  omega

/-- The flags of INC, from the number alone (43 R217). -/
theorem inc8_flags (v : Byte) (c : Bool) :
    (inc8 v c).2 = packF (decide (v.toNat = 255)) false (decide (v.toNat % 16 = 15)) c := by
  have hz : (v + 1 == 0) = decide (v.toNat = 255) := by
    rw [byte_beq_zero, decide_eq_decide, BitVec.toNat_add, show (1 : Byte).toNat = 1 from rfl]
    have := v.isLt
    omega
  show packF (v + 1 == 0) false (lowNibble v == 0xF) c = _
  rw [hz, lowNibble, beq_eq_decide]

/-- The flags of DEC, from the number alone (43 R219). -/
theorem dec8_flags (v : Byte) (c : Bool) :
    (dec8 v c).2 = packF (decide (v.toNat = 1)) true (decide (v.toNat % 16 = 0)) c := by
  have hz : (v - 1 == 0) = decide (v.toNat = 1) := by
    rw [byte_beq_zero, decide_eq_decide, BitVec.toNat_sub, show (1 : Byte).toNat = 1 from rfl]
    have := v.isLt
    omega
  show packF (v - 1 == 0) true (lowNibble v == 0x0) c = _
  rw [hz, lowNibble, beq_eq_decide]

/-- A register and then F written: the register holds its value, F its flags, the rest as before. -/
theorem setF_setR8 (r : R8) (v f : Byte) (s : State) :
    (setF f (setR8 r v s)).regs.get r = v ∧ (setF f (setR8 r v s)).regs.f = f &&& 0xF0
      ∧ setF f (setR8 r v s) = { s with
          regs := { s.regs.set r ((setF f (setR8 r v s)).regs.get r) with f := (setF f (setR8 r v s)).regs.f } } := by
  have hget : (setF f (setR8 r v s)).regs.get r = v := by
    rw [setF_regs, Regs.get_with_f, setR8_regs, Regs.get_set, if_pos rfl]
  refine ⟨hget, rfl, ?_⟩
  rw [hget]
  rfl

/-- Settles O26: the result and flags of INC and DEC, written to the register and F. -/
theorem registerIncDecResults : Obligations.RegisterIncDecResults := by
  unfold Obligations.RegisterIncDecResults
  intro r s
  refine ⟨⟨_, exec_incReg r s, ?_⟩, ⟨_, exec_decReg r s, ?_⟩⟩
  · obtain ⟨hget, hf, hframe⟩ := setF_setR8 r (inc8 (s.regs.get r) (flagC s)).1 (inc8 (s.regs.get r) (flagC s)).2 s
    refine ⟨(congrArg _ hget).trans (inc8_toNat ..), ?_, hframe⟩
    show FlagsAre ((inc8 (s.regs.get r) (flagC s)).2 &&& 0xF0) _ _ _ _
    rw [inc8_flags]
    exact FlagsAre_masked ..
  · obtain ⟨hget, hf, hframe⟩ := setF_setR8 r (dec8 (s.regs.get r) (flagC s)).1 (dec8 (s.regs.get r) (flagC s)).2 s
    refine ⟨(congrArg _ hget).trans (dec8_toNat ..), ?_, hframe⟩
    show FlagsAre ((dec8 (s.regs.get r) (flagC s)).2 &&& 0xF0) _ _ _ _
    rw [dec8_flags]
    exact FlagsAre_masked ..

/-- A byte read at an address, another written there, and F: the router's read and write, F, 8 clocks; and what they leave
alone. -/
theorem setF_memWrite_memRead (a : Word) (w f : Byte) (s : State) :
    setF f (memWrite a w (memRead a s).2) =
        { busWrite a w (busRead a s).2 with regs := { s.regs with f := f &&& 0xF0 }, clocks := s.clocks + 8 }
      ∧ StoreFrame [a] { (busRead a s).2 with regs := { s.regs with f := f &&& 0xF0 } }
        { busWrite a w (busRead a s).2 with regs := { s.regs with f := f &&& 0xF0 }, clocks := s.clocks + 8 } := by
  have hregs : (busWrite a w (busRead a s).2).regs = s.regs := by
    rw [busWrite_regs, busRead_state]
  refine ⟨?_, StoreFrame_with_regs ..⟩
  rw [memWrite_memRead]
  unfold setF
  simp only [hregs]

/-- Settles O27: the result and flags of INC and DEC, written at HL and to F. -/
theorem memoryIncDecResults : Obligations.MemoryIncDecResults := by
  unfold Obligations.MemoryIncDecResults
  intro s r
  have hread : (memRead (getHl s) s).1 = r.1 := by rw [memRead_eq]
  refine ⟨⟨incHlByte s, rfl, ?_⟩, ⟨decHlByte s, rfl, ?_⟩⟩
  · obtain ⟨hstate, hframe⟩ := setF_memWrite_memRead (getHl s) (r.1 + 1) (inc8 r.1 (flagC s)).2 s
    rw [← hread] at hstate
    rw [show incHlByte s = _ from hstate, hread]
    refine ⟨?_, rfl, hframe⟩
    show FlagsAre ((inc8 r.1 (flagC s)).2 &&& 0xF0) _ _ _ _
    rw [inc8_flags]
    exact FlagsAre_masked ..
  · obtain ⟨hstate, hframe⟩ := setF_memWrite_memRead (getHl s) (r.1 - 1) (dec8 r.1 (flagC s)).2 s
    rw [← hread] at hstate
    rw [show decHlByte s = _ from hstate, hread]
    refine ⟨?_, rfl, hframe⟩
    show FlagsAre ((dec8 r.1 (flagC s)).2 &&& 0xF0) _ _ _ _
    rw [dec8_flags]
    exact FlagsAre_masked ..

/-! ## Sixteen-bit arithmetic (spec 44) -/

/-- Settles O28: the sum in HL, its flags in F. -/
theorem addHlResults : Obligations.AddHlResults := by
  unfold Obligations.AddHlResults
  intro p s a b
  refine ⟨_, exec_addHl p s, ?_, FlagsAre_masked .., rfl⟩
  show (join (hiByte (getHl s + getR16 p s)) (loByte (getHl s + getR16 p s))).toNat = _
  rw [join_hiByte_loByte]
  exact BitVec.toNat_add _ _

/-- A pair or SP stepped: its value, and what is kept. -/
theorem stepPair_eq (p : R16) (d : Word) (s : State) :
    (∀ q, getR16 q (stepPair p d s) = if q = p then getR16 p s + d else getR16 q s)
      ∧ (stepPair p d s).regs.a = s.regs.a ∧ (stepPair p d s).regs.f = s.regs.f
      ∧ stepPair p d s = { s with
          regs := (stepPair p d s).regs, sp := (stepPair p d s).sp, clocks := s.clocks + 4 } := by
  obtain ⟨ha, hf, -⟩ := setR16_frame p (getR16 p s + d) s
  refine ⟨fun q => (?_ : _ = getR16 q (setR16 p (getR16 p s + d) s)).trans (getR16_setR16 ..), ha, hf, ?_⟩
  · cases q <;> rfl
  · cases p <;> rfl

/-- Settles O29: a pair or SP plus or minus one. -/
theorem pairIncDecResults : Obligations.PairIncDecResults := by
  unfold Obligations.PairIncDecResults
  intro p s
  refine ⟨⟨_, exec_incPair p s, ?_⟩, ⟨_, exec_decPair p s, ?_⟩⟩
  · obtain ⟨hget, ha, hf, hframe⟩ := stepPair_eq p 1 s
    refine ⟨fun q => ?_, ha, hf, hframe⟩
    rw [hget]
    split
    next h => rw [h]; exact BitVec.toNat_add _ _
    next => rfl
  · obtain ⟨hget, ha, hf, hframe⟩ := stepPair_eq p (-1) s
    refine ⟨fun q => ?_, ha, hf, hframe⟩
    rw [hget]
    split
    next h => rw [h]; exact BitVec.toNat_add _ _
    next => rfl

/-- A word plus a signed displacement, modulo 65536 (00 R7). -/
theorem add_sext16_toNat (w : Word) (e : Byte) : ((w + sext16 e).toNat : Int) = (w.toNat + e.toInt) % 65536 := by
  have hsext : ((sext16 e).toNat : Int) = e.toInt % 65536 := by
    have he : (sext16 e).toInt = e.toInt := BitVec.toInt_signExtend_of_le (by decide)
    have hcond := BitVec.toInt_eq_toNat_cond (sext16 e)
    have hlt := (sext16 e).isLt
    rw [← he]
    split at hcond <;> omega
  rw [BitVec.toNat_add]
  omega

/-- Settles O30: the signed sum, and the flags of the unsigned addition of the low bytes. -/
theorem stackPointerPlusDisplacementResults : Obligations.StackPointerPlusDisplacementResults := by
  unfold Obligations.StackPointerPlusDisplacementResults
  intro e s sum h c
  refine ⟨⟨_, rfl, add_sext16_toNat s.sp e, FlagsAre_masked .., rfl⟩, ⟨_, rfl, ?_, FlagsAre_masked .., rfl⟩⟩
  show ((join (hiByte (s.sp + sext16 e)) (loByte (s.sp + sext16 e))).toNat : Int) = _
  rw [join_hiByte_loByte]
  exact add_sext16_toNat s.sp e

/-! ## Rotates and shifts as arithmetic (45 R235 to R238, 46 R251 to R266) -/

/-- The concatenations of the model are the arithmetic of the rules, for every byte and carry. -/
theorem shiftResult_eq (op : ShiftOp) (v : Byte) (c : Bool) :
    (shiftResult op v c).1.toNat = (shiftArith op v.toNat (if c = true then 1 else 0)).1
      ∧ (shiftResult op v c).2 = decide ((shiftArith op v.toNat (if c = true then 1 else 0)).2 = 1) := by
  revert v c
  cases op <;> decide

/-- Settles O31: the CB rotation of A, with its flags cleared but C. -/
theorem accumulatorRotateResults : Obligations.AccumulatorRotateResults := by
  unfold Obligations.AccumulatorRotateResults
  intro i op s hi r
  have hexec : exec i s = .next (rotateA op s) := by
    have all : ∀ p ∈ [(Instr.rlca, ShiftOp.rlc), (.rrca, .rrc), (.rla, .rl), (.rra, .rr)],
        exec p.1 s = .next (rotateA p.2 s) := by
      intro p hp
      fin_cases hp <;> rfl
    exact all (i, op) hi
  obtain ⟨hres, hcarry⟩ := shiftResult_eq op s.regs.a (flagC s)
  refine ⟨_, hexec, hres, ?_, rfl⟩
  rw [← hcarry]
  exact FlagsAre_masked ..

/-! ## DAA (45 R239) -/

/-- The amount that DAA adds or subtracts, as a sum of its two parts. -/
theorem daaAdjust_toNat (a : Byte) (n h c : Bool) :
    (daaAdjust a n h c).toNat = (if h = true ∨ (n = false ∧ a.toNat % 16 > 9) then 0x06 else 0)
      + (if c = true ∨ (n = false ∧ a.toNat > 0x99) then 0x60 else 0) := by
  unfold daaAdjust lowNibble
  simp only [Bool.or_eq_true, Bool.and_eq_true, Bool.not_eq_true', decide_eq_true_eq]
  split_ifs <;> rfl

/-- DAA's result in plain arithmetic. -/
theorem daa8_toNat (a : Byte) (n h c : Bool) :
    (daa8 a n h c).1.toNat =
      (if n = true then a.toNat + 256 - (daaAdjust a n h c).toNat else a.toNat + (daaAdjust a n h c).toNat) % 256 := by
  show (if n then a - daaAdjust a n h c else a + daaAdjust a n h c).toNat = _
  split
  · rw [BitVec.toNat_sub]
    have := (daaAdjust a n h c).isLt
    omega
  · exact BitVec.toNat_add _ _

/-- DAA's flags. -/
theorem daa8_flags (a : Byte) (n h c : Bool) :
    (daa8 a n h c).2 = packF (decide ((daa8 a n h c).1 = 0)) n false
      (decide (c = true ∨ (n = false ∧ a.toNat > 0x99))) := by
  have hc : (c || (!n && decide (a.toNat > 0x99))) = decide (c = true ∨ (n = false ∧ a.toNat > 0x99)) := by
    rw [Bool.eq_iff_iff]
    simp
  rw [← hc]
  rfl

/-- Settles O32: the adjustment is a sum of its two parts, and C is set where the upper one is. -/
theorem daaResult : Obligations.DaaResult := by
  unfold Obligations.DaaResult
  intro s a low high
  refine ⟨daaA s, rfl, ?_, ?_, rfl⟩
  · have h := daa8_toNat s.regs.a (flagN s) (flagH s) (flagC s)
    rwa [daaAdjust_toNat] at h
  · have hhigh : decide (high = 0x60) = decide (flagC s = true ∨ (flagN s = false ∧ s.regs.a.toNat > 0x99)) := by
      rw [decide_eq_decide]
      show (if flagC s = true ∨ (flagN s = false ∧ s.regs.a.toNat > 0x99) then 0x60 else 0) = 0x60 ↔ _
      split
      next h => exact iff_of_true rfl h
      next h => exact iff_of_false (by decide) h
    rw [hhigh]
    show FlagsAre ((daa8 s.regs.a (flagN s) (flagH s) (flagC s)).2 &&& 0xF0) _ _ _ _
    rw [daa8_flags]
    exact FlagsAre_masked ..

theorem bcd_toNat (n : Nat) : (bcd n).toNat = 16 * (n / 10 % 10) + n % 10 := by
  unfold bcd
  rw [BitVec.toNat_ofNat]
  omega

/-- A number below 100 by its two digits. -/
theorem exists_digits {n : Nat} (hn : n < 100) : ∃ p q, p < 10 ∧ q < 10 ∧ n = 10 * p + q :=
  ⟨n / 10, n % 10, by omega, by omega, by omega⟩

/-- A number below 100 packs into its two digits. -/
theorem bcd_digits_toNat {p q : Nat} (hp : p < 10) (hq : q < 10) : (bcd (10 * p + q)).toNat = 16 * p + q := by
  rw [bcd_toNat]
  omega

/-- DAA in a state whose A and F are given, F packed. -/
theorem daaA_packed (s : State) (a : Byte) {f : Byte} {z n h c : Bool} (hf : f = packF z n h c) :
    (daaA { s with regs := { s.regs with a := a, f := f } }).regs.a = (daa8 a n h c).1
      ∧ flagC (daaA { s with regs := { s.regs with a := a, f := f } })
        = decide (c = true ∨ (n = false ∧ a.toNat > 0x99)) := by
  subst hf
  have hn : flagN { s with regs := { s.regs with a := a, f := packF z n h c } } = n := packF_n ..
  have hh : flagH { s with regs := { s.regs with a := a, f := packF z n h c } } = h := packF_h ..
  have hc : flagC { s with regs := { s.regs with a := a, f := packF z n h c } } = c := packF_c ..
  unfold daaA
  rw [hn, hh, hc]
  refine ⟨rfl, ?_⟩
  show ((daa8 a n h c).2 &&& 0xF0).getLsbD 4 = _
  rw [daa8_flags, packF_masked, packF_c]

/-- A digit of a decimal sum, and the carry out of it. -/
theorem exists_digit_carry {n : Nat} (hn : n < 20) : ∃ p r, p ≤ 1 ∧ r < 10 ∧ n = r + 10 * p :=
  ⟨n / 10, n % 10, by omega, by omega, by omega⟩

/-- A digit of a decimal difference, and the borrow into it. -/
theorem exists_digit_borrow {x y : Nat} (hx : x < 10) (hy : y ≤ 10) : ∃ p r, p ≤ 1 ∧ r < 10 ∧ x + 10 * p = y + r := by
  by_cases h : x < y
  · exact ⟨1, x + 10 - y, by omega, by omega, by omega⟩
  · exact ⟨0, x - y, by omega, by omega, by omega⟩

/-- The digits of a packed decimal byte after a binary sum and its adjustment: DAA adds 6 for each decimal carry, `p` out of
the units and `q` out of the tens (45 R239). -/
theorem bcd_of_adjusted_sum {x y k a : Nat} {h c : Bool} (hx : x < 100) (hy : y < 100) (hk : k ≤ 1)
    (ha : a = ((bcd x).toNat + (bcd y).toNat + k) % 256)
    (hh : h = true ↔ (bcd x).toNat % 16 + (bcd y).toNat % 16 + k > 15)
    (hc : c = true ↔ (bcd x).toNat + (bcd y).toNat + k > 255) :
    (a + ((if h = true ∨ a % 16 > 9 then 0x06 else 0) + (if c = true ∨ a > 0x99 then 0x60 else 0))) % 256
        = (bcd ((x + y + k) % 100)).toNat
      ∧ ((c = true ∨ a > 0x99) ↔ x + y + k ≥ 100) := by
  obtain ⟨x₁, x₀, hx₁, hx₀, rfl⟩ := exists_digits hx
  obtain ⟨y₁, y₀, hy₁, hy₀, rfl⟩ := exists_digits hy
  obtain ⟨p, r₀, hp, hr₀, hunits⟩ := exists_digit_carry (show x₀ + y₀ + k < 20 by omega)
  obtain ⟨q, r₁, hq, hr₁, htens⟩ := exists_digit_carry (show x₁ + y₁ + p < 20 by omega)
  rw [bcd_digits_toNat hx₁ hx₀, bcd_digits_toNat hy₁ hy₀] at ha hh hc
  have hlow : (h = true ∨ a % 16 > 9) ↔ p = 1 := by
    rw [hh]
    omega
  have hhigh : (c = true ∨ a > 0x99) ↔ q = 1 := by
    rw [hc]
    omega
  have hsum : (10 * x₁ + x₀ + (10 * y₁ + y₀) + k) % 100 = 10 * r₁ + r₀ := by omega
  have hadjust : (if p = 1 then 0x06 else 0) + (if q = 1 then 0x60 else 0) = 6 * p + 96 * q := by
    split <;> split <;> omega
  simp only [hlow, hhigh]
  rw [hsum, bcd_digits_toNat hr₁ hr₀, hadjust]
  constructor <;> omega

/-- The digits of a packed decimal byte after a binary difference and its adjustment: DAA subtracts 6 for each decimal
borrow, `p` into the units and `q` into the tens (45 R239). -/
theorem bcd_of_adjusted_difference {x y k a : Nat} {h c : Bool} (hx : x < 100) (hy : y < 100) (hk : k ≤ 1)
    (ha : a = ((bcd x).toNat + 512 - (bcd y).toNat - k) % 256)
    (hh : h = true ↔ (bcd x).toNat % 16 < (bcd y).toNat % 16 + k)
    (hc : c = true ↔ (bcd x).toNat < (bcd y).toNat + k) :
    (a + 256 - ((if h = true then 0x06 else 0) + (if c = true then 0x60 else 0))) % 256
        = (bcd ((x + 200 - y - k) % 100)).toNat
      ∧ (c = true ↔ x < y + k) := by
  obtain ⟨x₁, x₀, hx₁, hx₀, rfl⟩ := exists_digits hx
  obtain ⟨y₁, y₀, hy₁, hy₀, rfl⟩ := exists_digits hy
  obtain ⟨p, r₀, hp, hr₀, hunits⟩ := exists_digit_borrow hx₀ (show y₀ + k ≤ 10 by omega)
  obtain ⟨q, r₁, hq, hr₁, htens⟩ := exists_digit_borrow hx₁ (show y₁ + p ≤ 10 by omega)
  rw [bcd_digits_toNat hx₁ hx₀, bcd_digits_toNat hy₁ hy₀] at ha hh hc
  have hlow : h = true ↔ p = 1 := by
    rw [hh]
    omega
  have hhigh : c = true ↔ q = 1 := by
    rw [hc]
    omega
  have hdiff : (10 * x₁ + x₀ + 200 - (10 * y₁ + y₀) - k) % 100 = 10 * r₁ + r₀ := by omega
  have hadjust : (if p = 1 then 0x06 else 0) + (if q = 1 then 0x60 else 0) = 6 * p + 96 * q := by
    split <;> split <;> omega
  simp only [hlow, hhigh]
  rw [hdiff, bcd_digits_toNat hr₁ hr₀, hadjust]
  constructor <;> omega

/-- Settles O33: the operation's half carry and carry say which digits passed 9, which is what DAA adjusts by. -/
theorem daaAfterDecimalArithmetic : Obligations.DaaAfterDecimalArithmetic := by
  unfold Obligations.DaaAfterDecimalArithmetic
  intro x y c s hx hy k sum dif
  have hk' : bitNat c = k := rfl
  have hk : k ≤ 1 := by
    cases c <;> decide
  refine ⟨⟨_, rfl, ?_⟩, ⟨_, rfl, ?_⟩⟩
  · have hsum : sum = _ := adc8_eq (bcd x) (bcd y) c
    have hvalue : sum.1.toNat = ((bcd x).toNat + (bcd y).toNat + k) % 256 := by
      rw [hsum]
      exact BitVec.toNat_ofNat _ 8
    obtain ⟨hres, hcarry⟩ := daaA_packed s sum.1 (congrArg Prod.snd hsum)
    obtain ⟨hdigits, hover⟩ := bcd_of_adjusted_sum hx hy hk hvalue decide_eq_true_iff decide_eq_true_iff
    refine ⟨hres.trans (BitVec.eq_of_toNat_eq ?_), hcarry.trans (decide_eq_decide.2 ?_)⟩
    · rw [← hdigits, daa8_toNat, daaAdjust_toNat]
      simp only [Bool.false_eq_true, if_false, true_and]
      rfl
    · rw [hk']
      simpa only [true_and] using hover
  · have hvalue : dif.1.toNat = _ := sbc8_toNat (bcd x) (bcd y) c
    obtain ⟨hres, hcarry⟩ := daaA_packed s dif.1 (sbc8_flags (bcd x) (bcd y) c)
    obtain ⟨hdigits, hunder⟩ := bcd_of_adjusted_difference hx hy hk hvalue decide_eq_true_iff decide_eq_true_iff
    refine ⟨hres.trans (BitVec.eq_of_toNat_eq ?_), hcarry.trans (decide_eq_decide.2 ?_)⟩
    · rw [← hdigits, daa8_toNat, daaAdjust_toNat]
      simp only [Bool.true_eq_false, false_and, or_false, if_true]
      rfl
    · rw [hk']
      simpa only [Bool.true_eq_false, false_and, or_false] using hunder

/-! ## CPL, SCF and CCF (45 R240 to R242) -/

/-- Settles O34: each is a write of packed flags, and for CPL of A complemented. -/
theorem complementAndCarryResults : Obligations.ComplementAndCarryResults := by
  unfold Obligations.ComplementAndCarryResults
  intro s
  refine ⟨⟨_, rfl, ?_, FlagsAre_masked .., rfl⟩, ⟨_, rfl, FlagsAre_masked .., rfl⟩, ⟨_, rfl, FlagsAre_masked .., rfl⟩⟩
  show (~~~s.regs.a).toNat = _
  rw [BitVec.toNat_not]

end Sys2Proof.Machine
end

section
/-! The CB instructions and control flow: each as plain arithmetic, with its whole next state (spec 46, 47). -/

namespace Sys2Proof.Machine

/-! ## Rotates, shifts and SWAP (46 R250 to R266) -/

/-- The result as a byte of the rules' number. -/
theorem shiftResult_byte (op : ShiftOp) (v : Byte) (c : Bool) :
    (shiftResult op v c).1 = BitVec.ofNat 8 (shiftArith op v.toNat (if c = true then 1 else 0)).1 := by
  rw [← (shiftResult_eq op v c).1]
  exact BitVec.eq_of_toNat_eq (by simp)

/-- The packed flags of a rotate, shift or SWAP, from the rules' numbers. -/
theorem shiftF_eq (op : ShiftOp) (v : Byte) (c : Bool) :
    shiftF (shiftResult op v c).1 (shiftResult op v c).2 =
      packF (decide ((shiftArith op v.toNat (if c = true then 1 else 0)).1 = 0)) false false
        (decide ((shiftArith op v.toNat (if c = true then 1 else 0)).2 = 1)) := by
  obtain ⟨hres, hcarry⟩ := shiftResult_eq op v c
  rw [shiftF, byte_beq_zero, hres, hcarry]

/-- Settles O35: the result in plain arithmetic, written back with its flags. -/
theorem rotateAndShiftResults : Obligations.RotateAndShiftResults := by
  unfold Obligations.RotateAndShiftResults
  intro op x s r w
  cases x with
  | reg q =>
    refine ⟨_, exec_shiftReg op q s, ?_, ?_⟩
    · show FlagsAre (shiftF _ _ &&& 0xF0) _ _ _ _
      rw [shiftF_eq]
      exact FlagsAre_masked ..
    · show shiftReg op q s = { s with regs := { s.regs.set q w with f := (shiftReg op q s).regs.f } }
      rw [show w = _ from (shiftResult_byte op (s.regs.get q) (flagC s)).symm]
      rfl
  | atHl =>
    have hw : w = _ := (shiftResult_byte op (busRead (getHl s) s).1 (flagC s)).symm
    obtain ⟨hstate, hframe⟩ := setF_memWrite_memRead (getHl s) w
      (shiftF (shiftResult op (busRead (getHl s) s).1 (flagC s)).1 (shiftResult op (busRead (getHl s) s).1 (flagC s)).2) s
    refine ⟨_, (exec_shiftHl op s).trans (congrArg _ (?_ : shiftHl op s = _)), ?_, rfl, hframe⟩
    · rw [← hstate, hw, shiftHl, memRead_eq]
    · show FlagsAre (shiftF _ _ &&& 0xF0) _ _ _ _
      rw [shiftF_eq]
      exact FlagsAre_masked ..

/-! ## BIT (46 R267, R268) -/

/-- The flags of BIT, from the number alone. -/
theorem testBit_flags (b : Fin 8) (v : Byte) (s : State) :
    FlagsAre (testBit b.val v s).regs.f (decide (v.toNat / 2 ^ b.val % 2 = 0)) false true (flagC s) := by
  have hz : (!v.getLsbD b.val) = decide (v.toNat / 2 ^ b.val % 2 = 0) := by
    rw [getLsbD_eq_decide, Bool.eq_iff_iff, Bool.not_eq_true', decide_eq_false_iff_not, decide_eq_true_iff]
    omega
  rw [← hz]
  exact FlagsAre_masked ..

/-- Settles O36: a read of the operand and a write of F. -/
theorem bitTestResults : Obligations.BitTestResults := by
  unfold Obligations.BitTestResults
  intro b x s
  cases x with
  | reg q => exact ⟨_, exec_bitReg b q s, testBit_flags b _ s, rfl⟩
  | atHl =>
    refine ⟨_, exec_bitHl b s, ?_⟩
    rw [bitHl, memRead_eq]
    exact ⟨testBit_flags b _ _, rfl⟩

/-! ## RES and SET (46 R269 to R272) -/

theorem getLsbD_one_shiftLeft {b j : Nat} (hj : j < 8) : (1#8 <<< b).getLsbD j = decide (j = b) := by
  rw [BitVec.getLsbD_shiftLeft, BitVec.getLsbD_one, Bool.eq_iff_iff]
  simp only [Bool.and_eq_true, Bool.not_eq_true', decide_eq_true_eq, decide_eq_false_iff_not]
  omega

theorem clearBit_getLsbD (b : Fin 8) (v : Byte) {j : Nat} (hj : j < 8) :
    (clearBit b v).getLsbD j = if j = b.val then false else v.getLsbD j := by
  rw [clearBit, BitVec.getLsbD_and, BitVec.getLsbD_not, getLsbD_one_shiftLeft hj]
  split <;> simp [*]

theorem raiseBit_getLsbD (b : Fin 8) (v : Byte) {j : Nat} (hj : j < 8) :
    (raiseBit b v).getLsbD j = if j = b.val then true else v.getLsbD j := by
  rw [raiseBit, BitVec.getLsbD_or, getLsbD_one_shiftLeft hj]
  split <;> simp [*]

/-- What SET (`up`) or RES makes of a byte. -/
def changedBit (b : Fin 8) (up : Bool) (v : Byte) : Byte := if up = true then raiseBit b v else clearBit b v

theorem changedBit_getLsbD (b : Fin 8) (up : Bool) (v : Byte) {j : Nat} (hj : j < 8) :
    (changedBit b up v).getLsbD j = if j = b.val then up else v.getLsbD j := by
  cases up
  · exact clearBit_getLsbD b v hj
  · exact raiseBit_getLsbD b v hj

theorem exec_changedBit_reg (b : Fin 8) (up : Bool) (q : R8) (s : State) :
    exec (if up = true then Form.set b (.reg q) else Form.res b (.reg q)) s =
      .next { s with regs := s.regs.set q (changedBit b up (s.regs.get q)) } := by
  cases up
  · exact exec_resReg b q s
  · exact exec_setReg b q s

theorem exec_changedBit_atHl (b : Fin 8) (up : Bool) (s : State) :
    exec (if up = true then Form.set b .atHl else Form.res b .atHl) s =
      .next { busWrite (getHl s) (changedBit b up (busRead (getHl s) s).1) (busRead (getHl s) s).2 with
        clocks := s.clocks + 8 } := by
  have hread : (memRead (getHl s) s).1 = (busRead (getHl s) s).1 := by rw [memRead_eq]
  rw [← memWrite_memRead, ← hread]
  cases up
  · exact exec_resHl b s
  · exact exec_setHl b s

/-- Settles O37: the changed byte bit by bit, written back. -/
theorem resAndSetResults : Obligations.ResAndSetResults := by
  unfold Obligations.ResAndSetResults
  intro b x up s
  cases x with
  | reg q => exact ⟨_, _, exec_changedBit_reg b up q s, fun j hj => changedBit_getLsbD b up _ hj, rfl⟩
  | atHl =>
    exact ⟨_, _, exec_changedBit_atHl b up s, fun j hj => changedBit_getLsbD b up _ hj, rfl, StoreFrame_one ..⟩

/-! ## Jumps (47 R280 to R285) -/

/-- Settles O38: the conditions are the flags', the target of JR is a signed sum. -/
theorem jumpResults : Obligations.JumpResults := by
  unfold Obligations.JumpResults
  intro cc nn e s holds
  have hcond : condHolds cc s = holds := by
    cases cc <;> rfl
  refine ⟨rfl, ?_, rfl, s.pc + sext16 e, add_sext16_toNat s.pc e, rfl, ?_⟩
  · rw [exec_jpIf, jumpIf, hcond]
    rfl
  · rw [exec_jrIf, jumpByIf, hcond]
    rfl

/-! ## Calls (47 R286, R287, R291) -/

/-- A call as a whole: the pushed state, PC at the target, 12 clocks. -/
theorem callTo_eq (target : Word) (s : State) :
    callTo target s = { pushedState s.pc s with pc := target, clocks := s.clocks + 12 } := by
  rw [callTo, push16_internal]

/-- Settles O39: each is one call. -/
theorem callResults : Obligations.CallResults := by
  unfold Obligations.CallResults
  intro cc nn k s called
  refine ⟨congrArg Host.Outcome.next (callTo_eq nn s), ?_, ?_, StoreFrame_pushedState s.pc nn s _⟩
  · rw [exec_callIf, callIf, callTo_eq]
  · rw [exec_rst, callTo_eq]
    rfl

/-! ## Returns (47 R288 to R290) -/

/-- An internal delay before a pop adds its clocks and nothing else. -/
theorem pop16_internal (s : State) : pop16 (internal s) = ((pop16 s).1, internal (pop16 s).2) := by
  have hread (a : Word) (t : State) : busRead a (internal t) = ((busRead a t).1, internal (busRead a t).2) := by
    have h := busRead_withCpu a { t.cpu with clocks := t.clocks + 4 } t
    rw [busRead_state a t] at h ⊢
    exact h
  rw [pop16_eq, pop16_eq, show (internal s).sp = s.sp from rfl, hread, hread]
  rfl

/-- Settles O40: each is one pop. -/
theorem returnResults : Obligations.ReturnResults := by
  unfold Obligations.ReturnResults
  intro cc s
  obtain ⟨drawn, hpop⟩ := pop16_stackTop s
  refine ⟨drawn, ?_, ?_, ?_⟩
  · show Host.Outcome.next (returnFromCall s) = _
    rw [returnFromCall, hpop]
    rfl
  · rw [exec_retIf, returnIf]
    split
    · rw [returnFromCall, pop16_internal, hpop]
      rfl
    · rfl
  · show Host.Outcome.next (returnFromInterrupt s) = _
    rw [returnFromInterrupt, returnFromCall, hpop]
    rfl

end Sys2Proof.Machine
end

section
/-! The timer: the fall of the monitored bit in one sub-step, and from it the count, the overflow and the cutting of ticks
(spec 61). -/

namespace Sys2Proof.Machine

/-! ## Falls of the monitored bit (61 R358, R360) -/

theorem timerSelect_eq : ∀ tac : BitVec 3, timerSelect tac = [9, 3, 5, 7].getD (tac.toNat % 4) 0 := by decide

theorem timerSelect_mem (tac : BitVec 3) : timerSelect tac ∈ [9, 3, 5, 7] := by
  revert tac
  decide

theorem timerInv_iff (t : Timer) : TimerInv t ↔ t.ic.toNat % 4 = 0 := by
  show t.ic.extractLsb' 0 2 = 0 ↔ _
  rw [← BitVec.toNat_inj, BitVec.extractLsb'_toNat]
  exact Iff.rfl

/-- The detector of one sub-step sees exactly the falls of the counter. -/
theorem fallsAt_iff {b : Nat} (hb : b ∈ [9, 3, 5, 7]) {ic : Word} (hic : ic.toNat % 4 = 0) :
    (ic.getLsbD b && !(ic + 4).getLsbD b) = decide (fallingEdges b ic.toNat 4 = 1) := by
  have hbit (w : Word) : w.getLsbD b = decide (w.toNat / 2 ^ b % 2 = 1) := Nat.testBit_eq_decide_div_mod_eq
  have hlt := ic.isLt
  rw [hbit, hbit, BitVec.toNat_add, show (4 : Word).toNat = 4 from rfl, Bool.eq_iff_iff, Bool.and_eq_true,
    Bool.not_eq_true', decide_eq_true_iff, decide_eq_false_iff_not, decide_eq_true_iff, fallingEdges]
  fin_cases hb <;> simp only [Nat.reducePow, Nat.reduceAdd] <;> omega

/-- One sub-step is at most one fall. -/
theorem fallingEdges_four_le {b : Nat} (hb : b ∈ [9, 3, 5, 7]) (c : Nat) : fallingEdges b c 4 ≤ 1 := by
  unfold fallingEdges
  fin_cases hb <;> simp only [Nat.reducePow, Nat.reduceAdd] <;> omega

/-- Two sub-steps in a row do not both fall. -/
theorem fallingEdges_four_twice {b : Nat} (hb : b ∈ [9, 3, 5, 7]) {ic : Word} (hic : ic.toNat % 4 = 0)
    (h : fallingEdges b ic.toNat 4 = 1) : fallingEdges b (ic + 4).toNat 4 = 0 := by
  have hlt := ic.isLt
  rw [BitVec.toNat_add, show (4 : Word).toNat = 4 from rfl]
  unfold fallingEdges at h ⊢
  fin_cases hb <;> simp only [Nat.reducePow, Nat.reduceAdd] at h ⊢ <;> omega

/-- The falls of a longer run are those of its first sub-step and those of the rest, also where IC wraps. -/
theorem fallingEdges_add {b : Nat} (hb : b ∈ [9, 3, 5, 7]) (ic : Word) (n : Nat) :
    fallingEdges b ic.toNat (n + 4) = fallingEdges b ic.toNat 4 + fallingEdges b (ic + 4).toNat n := by
  have hlt := ic.isLt
  rw [BitVec.toNat_add, show (4 : Word).toNat = 4 from rfl]
  unfold fallingEdges
  fin_cases hb <;> simp only [Nat.reducePow, Nat.reduceAdd] <;> omega

/-- The clocks' falls that an enabled timer counts. -/
def countedEdges (tac : BitVec 3) (ic : Word) (n : Nat) : Nat :=
  if tac.getLsbD 2 = true then fallingEdges (timerSelect tac) ic.toNat n else 0

theorem countedEdges_four_le (tac : BitVec 3) (ic : Word) : countedEdges tac ic 4 ≤ 1 := by
  unfold countedEdges
  split
  · exact fallingEdges_four_le (timerSelect_mem tac) _
  · exact Nat.zero_le 1

theorem countedEdges_add (tac : BitVec 3) (ic : Word) (n : Nat) :
    countedEdges tac ic (n + 4) = countedEdges tac ic 4 + countedEdges tac (ic + 4) n := by
  unfold countedEdges
  split
  · exact fallingEdges_add (timerSelect_mem tac) ic n
  · rfl

/-- The increment of one sub-step: IC advances, TIMA counts the fall, and a counted wrap opens the window (61 R361). -/
theorem Timer.count_eq {t : Timer} (h : TimerInv t) :
    t.count = { t with
      ic := t.ic + 4
      tima := t.tima + BitVec.ofNat 8 (countedEdges t.tac t.ic 4)
      overflowPending := t.overflowPending || decide (countedEdges t.tac t.ic 4 = 1 ∧ t.tima + 1 = 0) } := by
  have hfall := fallsAt_iff (timerSelect_mem t.tac) ((timerInv_iff t).1 h)
  have hle := countedEdges_four_le t.tac t.ic
  unfold Timer.count
  simp only [Bool.and_assoc, hfall]
  by_cases he : countedEdges t.tac t.ic 4 = 1
  · have hcond : t.tac.getLsbD 2 = true ∧ fallingEdges (timerSelect t.tac) t.ic.toNat 4 = 1 := by
      unfold countedEdges at he
      split at he
      · exact ⟨‹_›, he⟩
      · cases he
    rw [if_pos (by simpa using hcond), he]
    simp only [true_and]
    rfl
  · have hcond : ¬ (t.tac.getLsbD 2 = true ∧ fallingEdges (timerSelect t.tac) t.ic.toNat 4 = 1) := by
      rintro ⟨hon, hedge⟩
      exact he (by rw [countedEdges, if_pos hon, hedge])
    have hzero : countedEdges t.tac t.ic 4 = 0 := by omega
    rw [if_neg (by simpa using hcond), hzero]
    simp

/-- Where the bit does not fall, only IC advances. -/
theorem Timer.count_of_no_fall {t : Timer} (h : TimerInv t) (hnone : countedEdges t.tac t.ic 4 = 0) :
    t.count = { t with ic := t.ic + 4 } := by
  rw [Timer.count_eq h, hnone]
  simp

/-- One sub-step without a reload pending. -/
theorem timerSubStep_of_not_pending {s : State} (h : TimerInv s.timer) (hp : s.timer.overflowPending = false) :
    timerSubStep s = { s with timer := { s.timer with
      ic := s.timer.ic + 4
      tima := s.timer.tima + BitVec.ofNat 8 (countedEdges s.timer.tac s.timer.ic 4)
      overflowPending := decide (countedEdges s.timer.tac s.timer.ic 4 = 1 ∧ s.timer.tima + 1 = 0) } } := by
  have hreload : s.timer.reload = s.timer := by
    rw [Timer.reload, if_neg (by simp [hp])]
  rw [timerSubStep, if_neg (by simp [hp]), hreload, Timer.count_eq h, hp, Bool.false_or]

/-! ## Ticks -/

/-- Settles O51: a tick is as many sub-steps as machine cycles, so ticks add. -/
theorem timerTicksAdd : Obligations.TimerTicksAdd := by
  unfold Obligations.TimerTicksAdd
  intro m n s hm hn
  have hdiv : (m + n) / 4 = m / 4 + n / 4 := by omega
  unfold timerTick
  rw [hdiv, repeatN_add]

/-- `k` sub-steps without an overflow count the falls of `4 * k` clocks. -/
theorem timerSubSteps_count (k : Nat) {s : State} (h : TimerInv s.timer) (hp : s.timer.overflowPending = false)
    (hle : s.timer.tima.toNat + countedEdges s.timer.tac s.timer.ic (4 * k) ≤ 255) :
    repeatN timerSubStep k s = { s with timer := { s.timer with
      ic := s.timer.ic + BitVec.ofNat 16 (4 * k)
      tima := BitVec.ofNat 8 (s.timer.tima.toNat + countedEdges s.timer.tac s.timer.ic (4 * k)) } } := by
  induction k generalizing s with
  | zero =>
    have hnone : countedEdges s.timer.tac s.timer.ic (4 * 0) = 0 := by
      unfold countedEdges fallingEdges
      simp
    have hic : s.timer.ic + BitVec.ofNat 16 (4 * 0) = s.timer.ic := BitVec.add_zero _
    have htima : BitVec.ofNat 8 s.timer.tima.toNat = s.timer.tima := BitVec.eq_of_toNat_eq (by simp)
    rw [hnone, Nat.add_zero, hic, htima]
    rfl
  | succ k ih =>
    have hadd := countedEdges_add s.timer.tac s.timer.ic (4 * k)
    rw [show 4 * (k + 1) = 4 * k + 4 from rfl, hadd] at hle ⊢
    have hone := countedEdges_four_le s.timer.tac s.timer.ic
    have htima : (s.timer.tima + BitVec.ofNat 8 (countedEdges s.timer.tac s.timer.ic 4)).toNat
        = s.timer.tima.toNat + countedEdges s.timer.tac s.timer.ic 4 := by
      rw [BitVec.toNat_add, BitVec.toNat_ofNat]
      omega
    have hnowrap : ¬ (countedEdges s.timer.tac s.timer.ic 4 = 1 ∧ s.timer.tima + 1 = 0) := by
      rintro ⟨he, hz⟩
      have hz' : (s.timer.tima + 1).toNat = 0 := congrArg BitVec.toNat hz
      rw [BitVec.toNat_add, show (1 : Byte).toNat = 1 from rfl] at hz'
      omega
    have hinv : TimerInv (timerSubStep s).timer := Timer.reload_count_inv h
    have hstep := timerSubStep_of_not_pending h hp
    rw [decide_eq_false hnowrap] at hstep
    show repeatN timerSubStep k (timerSubStep s) = _
    rw [hstep] at hinv ⊢
    have hrest : (s.timer.tima + BitVec.ofNat 8 (countedEdges s.timer.tac s.timer.ic 4)).toNat
        + countedEdges s.timer.tac (s.timer.ic + 4) (4 * k) ≤ 255 := by omega
    have hic : s.timer.ic + 4 + BitVec.ofNat 16 (4 * k) = s.timer.ic + BitVec.ofNat 16 (4 * k + 4) := by
      rw [BitVec.add_assoc, Nat.add_comm (4 * k) 4, BitVec.ofNat_add]
      rfl
    rw [ih hinv rfl hrest]
    simp only [htima, hic, Nat.add_assoc, hp]

/-- Settles O49: the sub-steps of the tick count the falls of its clocks. -/
theorem timerCountsFallingEdges : Obligations.TimerCountsFallingEdges := by
  unfold Obligations.TimerCountsFallingEdges
  intro n s hn hinv hp bit edges hle
  have hedges : edges = countedEdges s.timer.tac s.timer.ic (4 * (n / 4)) := by
    rw [Nat.mul_div_cancel' (Nat.dvd_of_mod_eq_zero hn), countedEdges, timerSelect_eq]
  have h := timerSubSteps_count (n / 4) hinv hp (hedges ▸ hle)
  rwa [← hedges, Nat.mul_div_cancel' (Nat.dvd_of_mod_eq_zero hn)] at h

/-- Settles O50: the first sub-step wraps TIMA into the window, the second reloads it and cannot fall again. -/
theorem timerReloadsOneCycleAfterOverflow : Obligations.TimerReloadsOneCycleAfterOverflow := by
  unfold Obligations.TimerReloadsOneCycleAfterOverflow
  intro s tma hinv hp htima hon hfall t u
  rw [← timerSelect_eq] at hfall
  have hone : countedEdges s.timer.tac s.timer.ic 4 = 1 := by
    rw [countedEdges, if_pos hon, hfall]
  have ht : t = { s with timer := { s.timer with ic := s.timer.ic + 4, tima := 0, overflowPending := true } } := by
    have h := timerSubStep_of_not_pending hinv hp
    rw [hone, htima] at h
    exact h
  have hinv' : TimerInv t.timer := timerTick_timerInv hinv 4
  have hnone : countedEdges s.timer.tac (s.timer.ic + 4) 4 = 0 := by
    rw [countedEdges, if_pos hon]
    exact fallingEdges_four_twice (timerSelect_mem _) ((timerInv_iff _).1 hinv) hfall
  have hu : u = { s with
      ifr := s.ifr ||| 0b00100
      timer := Timer.count
        { s.timer with ic := s.timer.ic + 4, tima := tma, tma := tma, overflowPending := false } } := by
    show timerSubStep (ioWrite 0xFF06 tma t) = _
    rw [ht]
    rfl
  have hcount : Timer.count
      { s.timer with ic := s.timer.ic + 4, tima := tma, tma := tma, overflowPending := false }
      = { s.timer with ic := s.timer.ic + 4 + 4, tima := tma, tma := tma, overflowPending := false } := by
    rw [ht] at hinv'
    exact Timer.count_of_no_fall hinv' hnone
  have hic : s.timer.ic + 4 + 4 = s.timer.ic + 8 := BitVec.add_assoc _ 4 4
  refine ⟨by rw [ht]; exact ⟨rfl, rfl, rfl⟩, ?_⟩
  rw [hu, hcount, hic]

end Sys2Proof.Machine
end

section
/-! The read half of the router, the accesses that the PPU mode blocks, and each I/O register (spec 20 R61 to R69). -/

namespace Sys2Proof.Machine

/-! ## The read half of the router (20 R61) -/

/-- The read half of the router, row by row (20 R61, R63). -/
theorem busRead_byRow (a : Word) (s : State) :
    busRead a s =
      (if a.toNat ≤ 0x00FF ∧ s.bootRomEnabled = true then (s.bootRom.read a.toNat, s)
       else if a.toNat ≤ 0x7FFF then (s.mem.read a.toNat, s)
       else if a.toNat ≤ 0x9FFF then (if s.ppu.mode = .transfer then 0xFF else s.mem.read a.toNat, s)
       else if a.toNat ≤ 0xBFFF then (if s.cartRamPresent = true then (s.mem.read a.toNat, s) else drawByte s)
       else if a.toNat ≤ 0xDFFF then (s.mem.read a.toNat, s)
       else if a.toNat ≤ 0xFDFF then (s.mem.read (a.toNat - 0xE000 + 0xC000), s)
       else if a.toNat ≤ 0xFE9F then
         (if s.ppu.mode = .oamSearch ∨ s.ppu.mode = .transfer then 0xFF else s.mem.read a.toNat, s)
       else if a.toNat ≤ 0xFEFF then (0x00, s)
       else if a.toNat ≤ 0xFF7F then ioRead a s
       else if a.toNat ≤ 0xFFFE then (s.mem.read a.toNat, s)
       else (s.ie, s)) := by
  have hb := regionOf_bounds a
  cases hr : regionOf a
  case rom =>
    simp only [hr, Region.first, Region.last] at hb
    rw [if_pos hb.2]
    simp only [busRead, gated, rawRead, hr, Bool.false_eq_true, if_false, Bool.and_eq_true, decide_eq_true_eq]
    by_cases h : s.bootRomEnabled = true ∧ a.toNat ≤ 0x00FF
    · rw [if_pos h, if_pos h.symm]
    · rw [if_neg h, if_neg fun h' => h h'.symm]
  -- The bounds of any other row select one line of the chain.
  all_goals
    simp only [hr, Region.first, Region.last] at hb
    simp (disch := omega) only [if_pos, if_neg]
  case mirror => rw [busRead_of_workRam (.inr hr), homeKey_of_mirror hr]
  case vram | oam =>
    simp only [busRead, gated, rawRead, homeKey, hr, Bool.or_eq_true, beq_iff_eq]
    split <;> rfl
  all_goals simp [busRead, gated, rawRead, homeKey, hr]

/-- Settles O41: the chain of rows, and that a read draws at most free bytes. -/
theorem routerReadsByRegion : Obligations.RouterReadsByRegion := by
  unfold Obligations.RouterReadsByRegion
  exact fun a s => ⟨busRead_byRow a s, busRead_state a s⟩

/-! ## Blocked accesses (20 R63) -/

/-- The blocked accesses by address and mode. -/
theorem gated_iff (a : Word) (s : State) :
    gated s a = true ↔
      (0x8000 ≤ a.toNat ∧ a.toNat ≤ 0x9FFF ∧ s.ppu.mode = .transfer)
      ∨ (0xFE00 ≤ a.toNat ∧ a.toNat ≤ 0xFE9F ∧ (s.ppu.mode = .oamSearch ∨ s.ppu.mode = .transfer)) := by
  have hb := regionOf_bounds a
  constructor
  · intro h
    rcases regionOf_of_gated h with hr | hr
    all_goals
      simp only [hr, Region.first, Region.last] at hb
      simp [gated, hr] at h
    · exact .inl ⟨hb.1, hb.2, h⟩
    · exact .inr ⟨hb.1, hb.2, h⟩
  · rintro (⟨h1, h2, hm⟩ | ⟨h1, h2, hm⟩)
    · have hr : regionOf a = .vram := regionOf_eq_of_bounds ⟨h1, h2⟩
      simp [gated, hr, hm]
    · have hr : regionOf a = .oam := regionOf_eq_of_bounds ⟨h1, h2⟩
      simp [gated, hr, hm]

theorem busRead_of_gated {a : Word} {s : State} (h : gated s a = true) : busRead a s = (0xFF, s) := if_pos h

theorem busWrite_of_gated {a : Word} {s : State} (h : gated s a = true) (v : Byte) : busWrite a v s = s := if_pos h

/-- The instruction fetched where the opcode reads 0xFF is RST 0x38. -/
theorem fetchInstr_of_opcode_ff {s : State} (h : (fetchOpcode s).1 = 0xFF) : (fetchInstr s).1 = .rst38 := by
  unfold fetchInstr
  simp only [h]
  rfl

/-- Settles O43: by the rows that can be blocked; with the LCD off the mode is 0, and the byte 0xFF is RST 0x38. -/
theorem blockedAccessesReadFF : Obligations.BlockedAccessesReadFF := by
  unfold Obligations.BlockedAccessesReadFF
  intro a s
  refine ⟨gated_iff a s, fun h => ⟨?_, fun v => ?_⟩, fun hinv hoff => ?_, fun _ h => fetchInstr_of_opcode_ff ?_⟩
  · rw [memRead_eq, busRead_of_gated h]
  · rw [memWrite_eq, busWrite_of_gated h]
  · obtain ⟨-, -, -, -, -, -, hzero, -⟩ := hinv
    have hmode := (hzero hoff).2.2
    rw [← Bool.not_eq_true, gated_iff, hmode]
    simp
  · rw [fetchOpcode_eq, busRead_of_gated h]

/-! ## I/O registers (20 R67 to R69) -/

/-- The unused bits of TAC, IF and STAT, as a write and a read together leave them (10 R29, 20 R67, R68). -/
theorem unused_bits (v : Byte) :
    0xF8 ||| (v.setWidth 3).setWidth 8 = 0xF8 ||| v ∧ 0xE0 ||| (v.setWidth 5).setWidth 8 = 0xE0 ||| v
      ∧ (v.extractLsb' 3 4).setWidth 8 <<< 3 = v &&& 0x78 := by
  revert v
  decide

/-- LCDC reads back what was written, whatever the switch does to the PPU. -/
theorem writeLcdc_lcdc (v : Byte) (s : State) : (writeLcdc v s).ppu.lcdc = v := by
  rw [writeLcdc_eq, search_eq]
  split_ifs <;> rfl

/-- The DMA register reads back what was written. -/
theorem ioRead_dma (v : Byte) (s : State) : (ioRead 0xFF46 (ioWrite 0xFF46 v s)).1 = v := by
  rw [ioWrite_dma, dmaWrite_state]
  generalize (dmaWrite v s).mem = m
  generalize (dmaWrite v s).draws = d
  rfl

theorem toNat_ne_of_ne {a : Word} {k : Nat} (hk : k < 65536) (h : a ≠ BitVec.ofNat 16 k) : a.toNat ≠ k := fun e =>
  h (BitVec.eq_of_toNat_eq (by rw [e, BitVec.toNat_ofNat, Nat.mod_eq_of_lt hk]))

/-- An I/O address with no register in scope (20 R69). -/
theorem io_out_of_scope {a : Word} (hlow : a ∉ [(0xFF04 : Word), 0xFF05, 0xFF06, 0xFF07, 0xFF0F])
    (hscope : a.toNat < 0xFF40 ∨ 0xFF4B < a.toNat) (v : Byte) (s : State) :
    ioRead a s = drawByte s ∧ (a ≠ 0xFF50 → ioWrite a v s = s) := by
  simp only [List.mem_cons, List.not_mem_nil, or_false, not_or] at hlow
  obtain ⟨h04, h05, h06, h07, h0F⟩ := hlow
  replace h04 := toNat_ne_of_ne (k := 0xFF04) (by decide) h04
  replace h05 := toNat_ne_of_ne (k := 0xFF05) (by decide) h05
  replace h06 := toNat_ne_of_ne (k := 0xFF06) (by decide) h06
  replace h07 := toNat_ne_of_ne (k := 0xFF07) (by decide) h07
  replace h0F := toNat_ne_of_ne (k := 0xFF0F) (by decide) h0F
  -- Every case of the registers' match but the last names an address that is excluded.
  constructor
  · have hnone : ioRegister s a = none := by
      unfold ioRegister
      split
      case h_18 => rfl
      all_goals omega
    rw [ioRead, hnone]
  · intro h50
    replace h50 := toNat_ne_of_ne (k := 0xFF50) (by decide) h50
    unfold ioWrite
    split
    case h_18 => rfl
    all_goals omega

/-- Settles O45: each register by evaluation, its unused bits apart; the rest of the page has none. -/
theorem ioRegisterReadsAndWrites : Obligations.IoRegisterReadsAndWrites := by
  unfold Obligations.IoRegisterReadsAndWrites
  intro v s readBack
  obtain ⟨htac, hif, hstat⟩ := unused_bits v
  have hstatRead : readBack 0xFF41 = 0x80 ||| ((v.extractLsb' 3 4).setWidth 8 <<< 3)
      ||| (if s.ppu.ly = s.ppu.lyc then 0x04 else 0x00) ||| s.ppu.mode.code := rfl
  rw [hstat] at hstatRead
  have hdiv : readBack 0xFF04 = 0x00 := (by decide : hiByte 0x0000 = 0x00)
  exact ⟨⟨hdiv, rfl⟩, ⟨rfl, rfl⟩, ⟨rfl, rfl⟩, ⟨htac, rfl⟩, ⟨hif, rfl⟩, writeLcdc_lcdc v s, ⟨hstatRead, rfl⟩, ⟨rfl, rfl⟩,
    ⟨rfl, rfl⟩, ⟨rfl, rfl⟩, ⟨rfl, rfl⟩, ioRead_dma v s, ⟨rfl, rfl⟩, ⟨rfl, rfl⟩, ⟨rfl, rfl⟩, ⟨rfl, rfl⟩, ⟨rfl, rfl⟩,
    fun a _ _ hlow hscope => io_out_of_scope hlow hscope v s⟩

end Sys2Proof.Machine
end

section
/-! Mode 3: one clock case by case, the fetcher and the sprite rows in plain arithmetic, and a whole line without sprites
(spec 62 R401 to R431). -/

namespace Sys2Proof.Machine

/-! ## One clock of mode 3 (62 R402) -/

/-- The compositor acts on this clock: it waits for no sprite fetch and the FIFO holds more than eight pixels. -/
abbrev Ppu.pops (p : Ppu) : Prop := p.line.stall = 0 ∧ 8 < p.line.fifo.length

theorem mode3Clock_of_stall {p : Ppu} (h : p.line.stall ≠ 0) (mem : Memory) (sfc : Nat) :
    p.mode3Clock mem sfc = p.stallClock := by
  rw [Ppu.mode3Clock, if_pos (Nat.pos_of_ne_zero h)]

theorem mode3Clock_of_short {p : Ppu} (h : p.line.stall = 0) (hlen : p.line.fifo.length ≤ 8) (mem : Memory) (sfc : Nat) :
    p.mode3Clock mem sfc = p.fetcherClock mem := by
  rw [Ppu.mode3Clock, if_neg (by omega), if_neg (by omega)]

theorem mode3Clock_of_window {p : Ppu} (h : p.pops) (hw : windowStartsAt p) (mem : Memory) (sfc : Nat) :
    p.mode3Clock mem sfc = p.startWindow := by
  obtain ⟨hstall, hlen⟩ := h
  rw [Ppu.mode3Clock, if_neg (by omega), if_pos hlen, if_pos ((windowStarts_iff p).2 hw)]

theorem mode3Clock_of_discard {p : Ppu} (h : p.pops) (hw : ¬ windowStartsAt p) (hd : p.line.discard ≠ 0) (mem : Memory)
    (sfc : Nat) : p.mode3Clock mem sfc = p.dropPixel.fetcherClock mem := by
  obtain ⟨hstall, hlen⟩ := h
  rw [Ppu.mode3Clock, if_neg (by omega), if_pos hlen, if_neg (mt (windowStarts_iff p).1 hw),
    if_pos (Nat.pos_of_ne_zero hd)]

theorem mode3Clock_of_output {p : Ppu} (h : p.pops) (hw : ¬ windowStartsAt p) (hd : p.line.discard = 0) (mem : Memory)
    (sfc : Nat) : p.mode3Clock mem sfc = (p.fetchSprites mem sfc).outputClock mem := by
  obtain ⟨hstall, hlen⟩ := h
  rw [Ppu.mode3Clock, if_neg (by omega), if_pos hlen, if_neg (mt (windowStarts_iff p).1 hw), if_neg (by omega)]

/-- What a clock of the fetcher leaves alone (62 R410). -/
theorem fetcherClock_keeps (mem : Memory) (p : Ppu) :
    (p.fetcherClock mem).line.inWindow = p.line.inWindow ∧ (p.fetcherClock mem).line.lx = p.line.lx
      ∧ (p.fetcherClock mem).line.discard = p.line.discard ∧ (p.fetcherClock mem).fb = p.fb
      ∧ (p.fetcherClock mem).mode = p.mode ∧ (p.fetcherClock mem).spriteBuf = p.spriteBuf := by
  rw [fetcherClock_state]
  exact ⟨rfl, rfl, rfl, rfl, rfl, rfl⟩

/-- The output stage begins no window. -/
theorem outputClock_inWindow (mem : Memory) (p : Ppu) : (p.outputClock mem).line.inWindow = p.line.inWindow := by
  unfold Ppu.outputClock
  split
  · rfl
  split
  · exact (fetcherClock_keeps mem p).1
  · simp only
    split
    · rfl
    · exact (fetcherClock_keeps mem _).1

theorem fetchSprites_inWindow (mem : Memory) (sfc : Nat) (p : Ppu) :
    (p.fetchSprites mem sfc).line.inWindow = p.line.inWindow := by
  rw [fetchSprites_eq]

/-- Only the start of the window changes `inWindow`. -/
theorem mode3Clock_inWindow {p : Ppu} (h : ¬ (p.pops ∧ windowStartsAt p)) (mem : Memory) (sfc : Nat) :
    (p.mode3Clock mem sfc).line.inWindow = p.line.inWindow := by
  by_cases hstall : p.line.stall = 0
  · by_cases hlen : 8 < p.line.fifo.length
    · have hw : ¬ windowStartsAt p := fun hw => h ⟨⟨hstall, hlen⟩, hw⟩
      by_cases hd : p.line.discard = 0
      · rw [mode3Clock_of_output ⟨hstall, hlen⟩ hw hd, outputClock_inWindow, fetchSprites_inWindow]
      · rw [mode3Clock_of_discard ⟨hstall, hlen⟩ hw hd]
        exact (fetcherClock_keeps mem p.dropPixel).1
    · rw [mode3Clock_of_short hstall (by omega)]
      exact (fetcherClock_keeps mem p).1
  · rw [mode3Clock_of_stall hstall]
    rfl

/-- On a clock that does not reach the output stage no pixel is written and LX, the mode and the sprites stay. -/
theorem mode3Clock_without_output {p : Ppu} (h : ¬ p.pops ∨ windowStartsAt p ∨ p.line.discard ≠ 0) (mem : Memory)
    (sfc : Nat) :
    (p.mode3Clock mem sfc).fb = p.fb ∧ (p.mode3Clock mem sfc).line.lx = p.line.lx
      ∧ (p.mode3Clock mem sfc).mode = p.mode ∧ (p.mode3Clock mem sfc).spriteBuf = p.spriteBuf := by
  by_cases hstall : p.line.stall = 0
  · by_cases hlen : 8 < p.line.fifo.length
    · by_cases hw : windowStartsAt p
      · rw [mode3Clock_of_window ⟨hstall, hlen⟩ hw]
        exact ⟨rfl, rfl, rfl, rfl⟩
      · have hd : p.line.discard ≠ 0 := (h.resolve_left (not_not.2 ⟨hstall, hlen⟩)).resolve_left hw
        rw [mode3Clock_of_discard ⟨hstall, hlen⟩ hw hd]
        obtain ⟨-, hlx, -, hfb, hmode, hbuf⟩ := fetcherClock_keeps mem p.dropPixel
        exact ⟨hfb, hlx, hmode, hbuf⟩
    · rw [mode3Clock_of_short hstall (by omega)]
      obtain ⟨-, hlx, -, hfb, hmode, hbuf⟩ := fetcherClock_keeps mem p
      exact ⟨hfb, hlx, hmode, hbuf⟩
  · rw [mode3Clock_of_stall hstall]
    exact ⟨rfl, rfl, rfl, rfl⟩

/-- The output stage where a sprite fetch is waited for. -/
theorem outputClock_of_stall {p : Ppu} (h : p.line.stall ≠ 0) (mem : Memory) : p.outputClock mem = p.stallClock := by
  rw [Ppu.outputClock, if_pos (Nat.pos_of_ne_zero h)]

/-- The output stage where a pixel leaves the FIFO. -/
theorem outputClock_of_pixel {p : Ppu} {px : Pixel} {rest : List Pixel} (h : p.line.stall = 0)
    (hfifo : p.line.fifo = px :: rest) (mem : Memory) :
    p.outputClock mem =
      if p.line.lx + 1 = 160 then p.outputPixel px rest else (p.outputPixel px rest).fetcherClock mem := by
  rw [Ppu.outputClock, if_neg (by omega), hfifo]
  rfl

/-! ## The fetcher and the sprite rows (62 R410 to R414, R426) -/

theorem mapAddr_eq (p : Ppu) :
    p.mapAddr = if p.line.inWindow = true then
        (if p.lcdc.getLsbD 6 = true then 0x9C00 else 0x9800) + 32 * (p.fetchY.toNat / 8) + p.line.tileCol.val
      else (if p.lcdc.getLsbD 3 = true then 0x9C00 else 0x9800) + 32 * (p.fetchY.toNat / 8)
        + (p.scx.toNat / 8 + p.line.tileCol.val) % 32 := rfl

/-- The address of a sprite's row in plain arithmetic (62 R426). -/
theorem spriteAddr_eq (p : Ppu) (sp : Sprite) :
    p.spriteAddr sp =
      0x8000 + 16 * (if p.spriteHeight = 16 then sp.tileIndex.toNat / 2 * 2 else sp.tileIndex.toNat)
        + 2 * p.spriteRow sp := by
  unfold Ppu.spriteAddr
  simp only
  split
  · rw [tileMask]
  · rfl

/-- A colour index from its two bits. -/
theorem colorAt_eq (hi lo : Byte) (bit : Nat) :
    colorAt hi lo bit = BitVec.ofNat 2 (2 * (hi.toNat / 2 ^ bit % 2) + lo.toNat / 2 ^ bit % 2) := by
  rw [← colorAt_toNat]
  exact BitVec.eq_of_toNat_eq (by simp)

/-- A sprite mixed into the FIFO, slot by slot (62 R426). -/
theorem mixSprite_getElem? (mem : Memory) (p : Ppu) (sp : Sprite) (fifo : List Pixel) (i : Nat) :
    let bit := if sp.flipX = true then i else 7 - i
    let c := 2 * ((mem.read (p.spriteAddr sp + 1)).toNat / 2 ^ bit % 2)
      + (mem.read (p.spriteAddr sp)).toNat / 2 ^ bit % 2
    (p.mixSprite mem sp fifo)[i]? = fifo[i]?.map fun px =>
      if i < 8 ∧ c ≠ 0 ∧ px.sourceKind ≠ .sprite ∧ ¬ (sp.priority = true ∧ px.colorIndex ≠ 0) then
        { colorIndex := BitVec.ofNat 2 c, sourceKind := .sprite, paletteSelect := sp.paletteSelect,
          priority := sp.priority }
      else px := by
  intro bit c
  have hc : c < 4 := by omega
  have hcolor : colorAt (mem.read (p.spriteAddr sp + 1)) (mem.read (p.spriteAddr sp)) bit = BitVec.ofNat 2 c :=
    colorAt_eq ..
  rw [Ppu.mixSprite, mixRow_getElem?]
  congr 1
  funext px
  rw [Nat.zero_add]
  show (if i < 8 then mixPixel sp (colorAt (mem.read (p.spriteAddr sp + 1)) (mem.read (p.spriteAddr sp)) bit) px else px)
    = _
  rw [hcolor, mixPixel_eq sp hc]
  by_cases hi : i < 8
  · rw [if_pos hi]
    simp only [hi, true_and]
  · rw [if_neg hi, if_neg fun h => hi h.1]

/-! ## A whole line without sprites (62 R403, R421) -/

/-- A run of tile rows in which no window starts goes to the end of the line. -/
theorem running_to_end {mem : Memory} {sfc : Nat} {p : Ppu} (h0 : p.running mem 0 p) (hspr : p.lcdc.getLsbD 1 = false)
    (hd : p.line.discard ≤ 7) (hlx : p.line.lx ≤ 159)
    (hwin : ∀ q : Ppu, p.sameScreen q → q.line.lx ≤ 159 → q.windowStarts = false) :
    let len := 176 + p.line.discard - p.line.lx
    let after (n : Nat) : Ppu := repeatN (transferClock mem sfc) n p
    (∀ n < len, (after n).mode = .transfer) ∧ (after len).mode = .hblank ∧ (after len).line.lx = 160
      ∧ p.painted mem (after len) := by
  intro len after
  have hrun (n : Nat) (hn : n < len) : p.running mem n (after n) :=
    running_clocks h0 hspr hd (by omega) fun q hq m _ hm hx => hwin q hq (by omega)
  refine ⟨fun n hn => (hrun n hn).2.2.1, ?_⟩
  have hlast := hrun (len - 1) (by omega)
  obtain ⟨hscreen, -, hmode, -, -, -, hx, -⟩ := id hlast
  have hafter : after len = (after (len - 1)).mode3Clock mem sfc := by
    show repeatN _ len p = _
    rw [show len = len - 1 + 1 by omega, repeatN_succ']
    exact if_pos hmode
  rw [hafter]
  exact mode3Clock_last hlast hspr (hwin _ hscreen (by omega)) (by omega) (by omega)

/-- The window begins its own run, at the pixel where it starts. -/
theorem running_startWindow {mem : Memory} {q : Ppu} (hmode : q.mode = .transfer) (hstall : q.line.stall = 0) :
    q.startWindow.running mem 0 q.startWindow :=
  running_start hmode hstall rfl rfl rfl rfl

theorem lineShade_of_background {p : Ppu} {x : Nat} (h : ¬ (windowOnLine p = true ∧ p.wx.toNat ≤ x + 7))
    (mem : Memory) : lineShade mem p x = BitVec.ofNat 8 (p.bgp.toNat / 4 ^ backgroundColor mem p x % 4) := by
  rw [lineShade, if_neg h]

theorem lineShade_of_window {p : Ppu} {x : Nat} (h : windowOnLine p = true ∧ p.wx.toNat ≤ x + 7) (mem : Memory) :
    lineShade mem p x = BitVec.ofNat 8 (p.bgp.toNat / 4 ^ windowColor mem p (x + 7 - p.wx.toNat) % 4) := by
  rw [lineShade, if_pos h]

/-- The frame buffer at the end of a run that reached the end of the line. -/
theorem painted_read {mem : Memory} {p q : Ppu} (h : p.painted mem q) (hlx : q.line.lx = 160) (hwf : p.fb.wf) (k : Nat) :
    q.fb.read k =
      if 160 * p.ly.toNat + p.line.lx ≤ k ∧ k < 160 * p.ly.toNat + 160 then
        p.shade (p.rowPixel mem (k - (160 * p.ly.toNat + p.line.lx) + p.line.discard))
      else p.fb.read k := by
  have hread := (h hwf).2 k
  rwa [hlx] at hread

/-- What the first clause says of mode 3's length and of the line's end. -/
def LineTransfer (mem : Memory) (sfc : Nat) (p : Ppu) (len : Nat) : Prop :=
  let after (n : Nat) : Ppu := repeatN (transferClock mem sfc) n p.enterMode3
  (∀ n < len, (after n).mode = .transfer) ∧ (after len).mode = .hblank ∧ (after len).line.lx = 160
    ∧ (p.fb.wf → ∀ k, (after len).fb.read k =
        if 160 * p.ly.toNat ≤ k ∧ k < 160 * p.ly.toNat + 160 then lineShade mem p (k - 160 * p.ly.toNat)
        else p.fb.read k)

/-- A line on which the window does not show is one run of background tiles. -/
theorem lineTransfer_of_no_window {mem : Memory} {sfc : Nat} {p : Ppu} (hspr : p.lcdc.getLsbD 1 = false)
    (hwin : windowOnLine p = false) : LineTransfer mem sfc p (176 + p.scx.toNat % 8) := by
  have hstart : p.enterMode3.running mem 0 p.enterMode3 := running_start rfl rfl rfl rfl rfl rfl
  have hdiscard : p.scx.toNat % 8 ≤ 7 := by omega
  obtain ⟨hrun, hmode, hlx, hpaint⟩ := running_to_end (sfc := sfc) hstart hspr hdiscard (Nat.zero_le _)
    fun q hq hx => windowStarts_false q hq rfl hx fun h => by
      rw [show windowOnLine p.enterMode3 = windowOnLine p from rfl, hwin] at h
      cases h
  refine ⟨hrun, hmode, hlx, fun hwf k => (painted_read hpaint hlx hwf k).trans ?_⟩
  rw [lineShade_of_background (by simp [hwin])]
  exact congrArg (fun v => if 160 * p.ly.toNat ≤ k ∧ k < 160 * p.ly.toNat + 160 then v else p.fb.read k)
    (rowPixel_background (p := p.enterMode3) rfl _)

/-- The clock, counted from the entry to mode 3, on which the window starts: at the left screen edge before any pixel is
discarded. -/
def windowClock (p : Ppu) : Nat := 16 + (if p.wx.toNat = 7 then 0 else p.scx.toNat % 8) + (p.wx.toNat - 7)

theorem lineLength_of_window {p : Ppu} (h : windowOnLine p = true) (h7 : 7 ≤ p.wx.toNat) (h166 : p.wx.toNat ≤ 166) :
    lineLength p = windowClock p + 1 + (176 - (p.wx.toNat - 7)) := by
  rw [lineLength, if_pos h, windowClock]
  omega

/-- The background's run, up to the window's edge. -/
theorem running_to_window {mem : Memory} {sfc : Nat} {p : Ppu} (hspr : p.lcdc.getLsbD 1 = false)
    (h166 : p.wx.toNat ≤ 166) {n : Nat} (hn : n ≤ windowClock p) :
    p.enterMode3.running mem n (repeatN (transferClock mem sfc) n p.enterMode3) := by
  have hstart : p.enterMode3.running mem 0 p.enterMode3 := running_start rfl rfl rfl rfl rfl rfl
  have hdiscard : p.enterMode3.line.discard = p.scx.toNat % 8 := rfl
  have hlx : p.enterMode3.line.lx = 0 := rfl
  have hwx : p.enterMode3.wx.toNat = p.wx.toNat := rfl
  unfold windowClock at hn
  refine running_clocks hstart hspr (by omega) (by split at hn <;> omega) fun q hq m h16 hm hx => ?_
  refine windowStarts_false q hq rfl (by split at hn <;> omega) fun _ => ?_
  split at hn <;> omega

/-- On that clock the window starts, at its edge. -/
theorem windowStartsAt_windowClock {mem : Memory} {p q : Ppu} (hwin : windowOnLine p = true)
    (hq : p.enterMode3.running mem (windowClock p) q) : q.pops ∧ windowStartsAt q ∧ q.line.lx = p.wx.toNat - 7 := by
  obtain ⟨hscreen, -, -, hstall, hfifo, -, hlx, -⟩ := hq
  obtain ⟨hregs, hin⟩ := hscreen
  unfold windowOnLine at hwin
  simp only [Bool.and_eq_true, decide_eq_true_eq] at hwin
  obtain ⟨⟨⟨hen, hwy⟩, h7⟩, h166⟩ := hwin
  have hlen : q.line.fifo.length = 8 * (windowClock p / 8) - (windowClock p - 16) := by
    rw [hfifo, List.length_map, List.length_range']
  have hedge : q.line.lx = p.wx.toNat - 7 := by
    rw [hlx]
    show 0 + (windowClock p - 16 - p.scx.toNat % 8) = _
    unfold windowClock
    split <;> omega
  have hclock : 16 ≤ windowClock p := by
    unfold windowClock
    omega
  refine ⟨⟨hstall, by omega⟩, ?_, hedge⟩
  rw [windowStartsAt, hin, hedge, hregs]
  exact ⟨hen, rfl, hwy, Nat.sub_add_cancel h7⟩

/-- A line on which the window shows is a run of background tiles up to the window's edge, the clock on which the window
starts, and a run of window tiles. -/
theorem lineTransfer_of_window {mem : Memory} {sfc : Nat} {p : Ppu} (hspr : p.lcdc.getLsbD 1 = false)
    (hwin : windowOnLine p = true) : LineTransfer mem sfc p (lineLength p) := by
  obtain ⟨⟨⟨hen, hwy⟩, h7⟩, h166⟩ : ((p.lcdc.getLsbD 5 = true ∧ p.wy.toNat ≤ p.ly.toNat) ∧ 7 ≤ p.wx.toNat)
      ∧ p.wx.toNat ≤ 166 := by
    simpa only [windowOnLine, Bool.and_eq_true, decide_eq_true_eq] using hwin
  have hrun (n : Nat) (hn : n ≤ windowClock p) := running_to_window (mem := mem) (sfc := sfc) hspr h166 hn
  have hq := hrun _ le_rfl
  obtain ⟨hpops, hat, hedge⟩ := windowStartsAt_windowClock hwin hq
  obtain ⟨hscreen, -, hmode, hstall, -, -, -, hpaint⟩ := hq
  have hstart : repeatN (transferClock mem sfc) (windowClock p + 1) p.enterMode3
      = (repeatN (transferClock mem sfc) (windowClock p) p.enterMode3).startWindow := by
    rw [repeatN_succ', transferClock, if_pos hmode, mode3Clock_of_window hpops hat]
  have hsecond (m : Nat) : repeatN (transferClock mem sfc) (windowClock p + 1 + m) p.enterMode3
      = repeatN (transferClock mem sfc) m (repeatN (transferClock mem sfc) (windowClock p) p.enterMode3).startWindow := by
    rw [repeatN_add, hstart]
  generalize repeatN (transferClock mem sfc) (windowClock p) p.enterMode3 = q at *
  have hregs := hscreen.1
  have hspr' : q.startWindow.lcdc.getLsbD 1 = false := by
    rw [hregs]
    exact hspr
  obtain ⟨hrun2, hend⟩ := running_to_end (sfc := sfc) (running_startWindow (mem := mem) hmode hstall) hspr'
    (Nat.zero_le 7) (show q.line.lx ≤ 159 by omega) fun u hu _ => by
      have hin : u.line.inWindow = true := hu.2
      simp [Ppu.windowStarts, hin]
  have hlen : 176 + q.startWindow.line.discard - q.startWindow.line.lx = 176 - (p.wx.toNat - 7) := by
    show 176 + 0 - q.line.lx = _
    rw [hedge]
  simp only [hlen, ← hsecond] at hrun2 hend
  obtain ⟨hmode2, hlx2, hpaint2⟩ := hend
  have hlength := lineLength_of_window hwin h7 h166
  unfold LineTransfer
  rw [hlength]
  refine ⟨fun n hn => ?_, hmode2, hlx2, fun hwf k => ?_⟩
  · by_cases h : n ≤ windowClock p
    · exact (hrun n h).2.2.1
    · rw [show n = windowClock p + 1 + (n - (windowClock p + 1)) by omega]
      exact hrun2 _ (by omega)
  · obtain ⟨hwf2, hread⟩ := hpaint hwf
    have hly : q.startWindow.ly = p.ly := by
      rw [hregs]
      rfl
    have hwindow (x : Nat) : q.startWindow.shade (q.startWindow.rowPixel mem x)
        = BitVec.ofNat 8 (p.bgp.toNat / 4 ^ windowColor mem p x % 4) := by
      rw [rowPixel_window rfl (by rw [hregs]; exact hwy), hregs]
      rfl
    have hbackground (x : Nat) : p.enterMode3.shade (p.enterMode3.rowPixel mem (x + p.enterMode3.line.discard))
        = BitVec.ofNat 8 (p.bgp.toNat / 4 ^ backgroundColor mem p x % 4) := rowPixel_background rfl x
    rw [painted_read hpaint2 hlx2 hwf2, hly, hwindow, show q.startWindow.line.lx = p.wx.toNat - 7 from hedge,
      show q.startWindow.fb = q.fb from rfl, hread, hedge, hbackground]
    show (if 160 * p.ly.toNat + (p.wx.toNat - 7) ≤ k ∧ k < 160 * p.ly.toNat + 160 then
        BitVec.ofNat 8 (p.bgp.toNat / 4 ^ windowColor mem p (k - (160 * p.ly.toNat + (p.wx.toNat - 7)) + 0) % 4)
      else if 160 * p.ly.toNat ≤ k ∧ k < 160 * p.ly.toNat + (p.wx.toNat - 7) then
        BitVec.ofNat 8 (p.bgp.toNat / 4 ^ backgroundColor mem p (k - 160 * p.ly.toNat) % 4)
      else p.fb.read k) = _
    split_ifs with hw hb hline hline
    · rw [lineShade_of_window ⟨hwin, by omega⟩, show k - (160 * p.ly.toNat + (p.wx.toNat - 7)) + 0
        = k - 160 * p.ly.toNat + 7 - p.wx.toNat by omega]
    · omega
    · rw [lineShade_of_background fun h => by omega]
    · omega
    · omega
    · rfl

/-- Settles O57: a line by its runs of tiles, a clock by its cases, the fetcher and a sprite's row by their equations. -/
theorem plainLineTransferTakes176Clocks : Obligations.PlainLineTransferTakes176Clocks := by
  unfold Obligations.PlainLineTransferTakes176Clocks
  refine ⟨fun mem sfc p hspr => ?_, fun mem sfc p => ?_, fun mem p => ?_, fun mem p sp fifo i => ?_⟩
  · show LineTransfer mem sfc p (lineLength p)
    by_cases hwin : windowOnLine p = true
    · exact lineTransfer_of_window hspr hwin
    · rw [lineLength, if_neg hwin]
      exact lineTransfer_of_no_window hspr (Bool.not_eq_true _ ▸ hwin)
  · intro pops t
    refine ⟨fun h => mode3Clock_of_window h.1 h.2 mem sfc, fun h => mode3Clock_inWindow h mem sfc,
      fun h => mode3Clock_of_stall h mem sfc, fun h hlen => mode3Clock_of_short h hlen mem sfc, ?_,
      fun h => mode3Clock_without_output h mem sfc, ?_⟩
    · rintro ⟨hpops, hw, hd⟩ dropped
      have ht : t = dropped.fetcherClock mem := mode3Clock_of_discard hpops hw hd mem sfc
      refine ⟨ht, ?_⟩
      rw [ht]
      exact (fetcherClock_keeps mem dropped).2.2.1
    · rintro ⟨hpops, hw, hd⟩ due stall mixed
      have ht : t = Ppu.outputClock mem { mixed with line := { mixed.line with stall := stall } } := by
        show p.mode3Clock mem sfc = _
        rw [mode3Clock_of_output hpops hw hd, fetchSprites_eq, hpops.1, Nat.zero_add]
      refine ⟨fun hstall => ?_, fun hstall px rest hfifo => ?_⟩
      · rw [ht, outputClock_of_stall hstall]
        rfl
      · intro out
        rw [hstall, ← hpops.1] at ht
        have hout : mixed.outputPixel px rest = out := by
          show { mixed.outputPixel px rest with fb := p.fb.write (160 * p.ly.toNat + p.line.lx) (p.shade px) } = out
          rw [pixelShade_eq]
          rfl
        have ht' : t = if p.line.lx + 1 = 160 then out else out.fetcherClock mem := by
          rw [ht, ← hout]
          exact outputClock_of_pixel (p := mixed) hpops.1 hfifo mem
        refine ⟨ht', ?_⟩
        rw [ht']
        split
        next hend => exact ⟨rfl, rfl, if_pos hend, rfl⟩
        next hend =>
          obtain ⟨-, hlx, -, hfb, hmode, hbuf⟩ := fetcherClock_keeps mem out
          exact ⟨hfb, hlx, hmode.trans (if_neg hend), hbuf⟩
  · intro y cell tile data color pixel
    have hy : p.fetchY.toNat = y := fetchY_toNat p
    have hcell : p.mapAddr = cell := by
      rw [mapAddr_eq, hy]
    have hdata : p.dataAddr = data := by
      rw [dataAddr_eq, hy]
    have hpixels : p.tilePixels = (List.range 8).map pixel := tilePixels_range p
    have hclock := fetcherClock_eq mem p
    rw [hcell, hdata, hpixels] at hclock
    exact hclock
  · intro h down row tile bit byte c
    have hrow : p.spriteRow sp = row := spriteRow_eq p sp
    have haddr : p.spriteAddr sp = 0x8000 + 16 * tile + 2 * row := by
      rw [spriteAddr_eq, hrow]
      rfl
    have hmix := mixSprite_getElem? mem p sp fifo i
    rw [haddr] at hmix
    exact hmix

end Sys2Proof.Machine
end
